-- ==== Sys2Proof/Word.lean ====
section
/-! DEFINITION. The words of the block and the names of its modes (00_scope.md R6, R7; 30_encoding.md R50, R52, R53).
One-bit values are Bool, as R7 has them ("`bool` is one bit, with 1 = true"). A time is a Nat: the number that its `T_W`
bits spell, narrowed at every port and in every difference; the width is a parameter of the build (R6), so no type fixes
it (log entry 2). -/

namespace Sys2Proof

/-- The input word of a build whose time base has `tW` bits: `{rst, tick, btn_n, now}` (R50; log entry 2). -/
abbrev InWordAt (tW : Nat) := BitVec (3 + tW)

/-- The input word with the reference `T_W` = 32, which R50 and spec/opcode_table.json lay out. -/
abbrev InWord := BitVec 35

/-- The output word driven by one step (R52). -/
abbrev OutWord := BitVec 9

/-- The four modes of the Mode Controller (R25, R53). All four 2-bit codes are modes, so this type has
exactly the values of the 2-bit register; the codes are `ModeId.toBits` (log entry 14). -/
inductive ModeId where
  /-- Manual Converter, code 0b00 -/
  | manual
  /-- Quiz, code 0b01 -/
  | quiz
  /-- Logic-Gate Simulator, code 0b10 -/
  | logicGate
  /-- ADC Visualizer, code 0b11 -/
  | adc
  deriving DecidableEq, Repr, Inhabited

end Sys2Proof
end

