-- ==== Sys2Proof/Config.lean ====
section
/-! DEFINITION. The parameters of 00_scope.md R6 and the values the spec leaves open (92_eei_decisions.md,
93_implementation_defined.md). `T_W`, `W_MS` and `PAUSE_MS` are data carried by the state, so that every statement holds
for every build; `N_MODES` is fixed by R6 itself; the open ones have no body. -/

namespace Sys2Proof

/-- What one build fixes: the arguments of R6 that have a reference value (R6, R29, R35; log entries 1 and 2). -/
structure Config where
  /-- `T_W`: how many bits the time base `now` and the register `stableSince` have. -/
  timeWidth : Nat
  /-- `W_MS`: the debounce window, any value of `0 .. 2^T_W - 1`, in milliseconds. -/
  wMs : Nat
  /-- `PAUSE_MS`: the length of the environment's success pause, in milliseconds; no rule of the block reads it. -/
  pauseMs : Nat
  deriving DecidableEq, Repr

/-- The reference configuration of R6: `T_W` = 32, `W_MS` = 50, `PAUSE_MS` = 1000. UNVERIFIED: the spec calls the last
two literals unaudited and takes the first from general knowledge (log entry 17). -/
def Config.reference : Config := { timeWidth := 32, wMs := 50, pauseMs := 1000 }

/-- `N_MODES` of R6, which R6 fixes: the number of values of `ModeId`. -/
def Config.nModes : Nat := 4

/-- `TICK_PERIOD_MS` of R6: OPEN in the spec (D15, U1), read by no rule of the block (log entry 8). -/
opaque Config.tickPeriodMs : Nat

/-- `MODE_NAME` of D27: the displayed name of a mode, OPEN, a parameter of the downstream (U9; log entry 8). -/
opaque Config.modeName : ModeId → String

/-- `NAME_POS` of D27: the row and column of that name, OPEN, a parameter of the downstream (U9; log entry 8). -/
opaque Config.namePos : Nat × Nat

/-- The input word that the environment presents at an edge for which the state holds no stimulus: a FREE VALUE,
numbered by the edge. Every word of the build may come (R54, R56; log entry 3). -/
opaque Config.freeInput : Nat → Nat

end Sys2Proof
end

