-- ==== Sys2Proof/Syntax.lean ====
section
/-! DEFINITION. The operations of the block, one constructor per row of spec/opcode_table.json
(00_scope.md R2, 30_encoding.md R54 and R55). -/

namespace Sys2Proof

/-- One operation, as the decoder hands it to the machine. Only TICK has operands (R55). -/
inductive Instr where
  /-- RESET (R140): no operands. -/
  | reset
  /-- TICK (R100): `sample` is the logical raw sample, true = pressed (R51); `now` is the time base (R55), of which
a build has `T_W` bits. -/
  | tick (sample : Bool) (now : Nat)
  /-- HOLD (R103): no operands. -/
  | hold
  deriving DecidableEq, Repr

end Sys2Proof
end

