-- ==== Sys2Proof/Decode.lean ====
section
/-! DEFINITION. The input word: its fields (30_encoding.md R50, R51, R55), its decoding (R54), the canonical word of
each operation (R58), and spec/opcode_table.json as masks and matches. The layout `{rst, tick, btn_n, now}` is given for
every width of `now` (log entry 2); with the reference width it is R50's word of 35 bits. Decoding a word is total (R54,
R56); the one rejection is of a number that is no 35-bit word. -/

namespace Sys2Proof

/-- `rst`, the reset request: bit 34 of R50's word. -/
def rstLine {tW : Nat} (w : InWordAt tW) : Bool := w.getLsbD (tW + 2)

/-- `tick`, the scheduler tick strobe: bit 33 of R50's word. -/
def tickLine {tW : Nat} (w : InWordAt tW) : Bool := w.getLsbD (tW + 1)

/-- `btn_n`, the electrical level of the active-low button line, false while the button is actuated: bit 32 of R50's
word (R51). -/
def btnLine {tW : Nat} (w : InWordAt tW) : Bool := w.getLsbD tW

/-- The logical raw sample, `NOT btn_n`: true = pressed (R51). -/
def sampleField {tW : Nat} (w : InWordAt tW) : Bool := !btnLine w

/-- `now`, the low `T_W` bits, taken as they are: bits 31:0 of R50's word (R55). -/
def nowField {tW : Nat} (w : InWordAt tW) : Nat := w.toNat % 2 ^ tW

/-- The operation of an input word, from `rst` and `tick` alone; `rst` has priority (R54, R122). -/
def decodeAt (tW : Nat) (w : InWordAt tW) : Instr :=
  if rstLine w then .reset else if tickLine w then .tick (sampleField w) (nowField w) else .hold

/-- The operation of a word of R50's layout, `T_W` = 32. -/
def decode (w : InWord) : Instr := decodeAt 32 w

/-- The operation of the word whose lines carry the low `T_W + 3` bits of a number (log entry 3). -/
def decodeNumber (tW n : Nat) : Instr := decodeAt tW (BitVec.ofNat (3 + tW) n)

/-- The canonical input word of an operation: every ignored field 0 (R58). -/
def encodeAt (tW : Nat) : Instr → InWordAt tW
  | .reset => 0b100#3 ++ 0#tW
  | .tick sample now => 0b01#2 ++ BitVec.ofBool (!sample) ++ BitVec.ofNat tW now
  | .hold => 0b000#3 ++ 0#tW

/-- The canonical word of R50's layout, `T_W` = 32 (R58). -/
def encode (i : Instr) : InWord := encodeAt 32 i

/-- A row of spec/opcode_table.json: a word `w` is the row's operation when `w &&& mask = value`. -/
structure OpcodeRow where
  mnemonic : String
  value : InWord
  mask : InWord
  deriving DecidableEq, Repr

/-- spec/opcode_table.json, "match" and "mask" of its three rows. -/
def opcodeTable : List OpcodeRow :=
  [ { mnemonic := "RESET", value := 0x400000000, mask := 0x400000000 },
    { mnemonic := "TICK", value := 0x200000000, mask := 0x600000000 },
    { mnemonic := "HOLD", value := 0x000000000, mask := 0x600000000 } ]

/-- Whether a word is one of a row's words. -/
def OpcodeRow.covers (r : OpcodeRow) (w : InWord) : Bool := w &&& r.mask == r.value

/-- The mnemonic of an operation, as spec/opcode_table.json spells it. -/
def Instr.mnemonic : Instr → String
  | .reset => "RESET"
  | .tick _ _ => "TICK"
  | .hold => "HOLD"

/-- Why a number is not an input word. -/
inductive DecodeError where
  /-- The number needs more than the 35 bits of the input word (R50, R57; log entry 13). -/
  | wordTooWide
  deriving DecidableEq, Repr

/-- The input word whose bits are the low `nbits` bits of `w`, numbered as spec/opcode_table.json numbers them, every
bit above them 0 (log entry 13). -/
def inputWord (nbits w : Nat) : Except DecodeError InWord :=
  if w % 2 ^ nbits < 2 ^ 35 then .ok (BitVec.ofNat 35 (w % 2 ^ nbits)) else .error .wordTooWide

/-- The operation the decoder reads from a table word (log entry 13). -/
def decodeTableWord (nbits w : Nat) : Option Instr :=
  match inputWord nbits w with
  | .ok v => some (decode v)
  | .error _ => none

end Sys2Proof
end

