-- ==== Sys2Proof/Machine/State.lean ====
section
/-! DEFINITION. The state of the machine: the block's five registers (10_state.md R20), the outputs of its last step
(30_encoding.md R52), its configuration (00_scope.md R6), and what the environment presents (R50). -/

namespace Sys2Proof.Machine

/-- The block's whole state, "the five fields below, and nothing else" (R20). -/
structure Regs where
  /-- Logical raw sample at the most recent TICK, true = pressed (R21). -/
  rawLevel : Bool
  /-- `now` of the TICK where `rawLevel` last changed: a register of `T_W` bits (R22; log entry 2). -/
  stableSince : Nat
  /-- Debounced level, true = pressed (R23). -/
  confirmedLevel : Bool
  /-- A press has been reported and no stable release seen since (R24). -/
  pressLatched : Bool
  /-- The active mode (R25). -/
  mode : ModeId
  deriving DecidableEq, Repr

/-- The output record of one step (R52); as the 9-bit word it is `Outputs.toWord`. -/
structure Outputs where
  /-- `out[0]`: the confirmed-press event. -/
  pressEvt : Bool
  /-- `out[1]`: the confirmed-release event. -/
  releaseEvt : Bool
  /-- `out[2]`: this step made a mode transition. -/
  modeEntry : Bool
  /-- `out[3]`: the downstream must run a mode in this tick. -/
  dispatchValid : Bool
  /-- `out[5:4]`: the mode the downstream must run. -/
  dispatchMode : ModeId
  /-- `out[7:6]`: the mode after the step. -/
  mode : ModeId
  /-- `out[8]`: the debounced level after the step. -/
  confirmedLevel : Bool
  deriving DecidableEq, Repr

/-- Why the machine stops: never. "The model's step function has no fault outcome" (60_exceptions.md R120), so this type
has no constructor and no step can answer a fault (log entry 12). -/
inductive Fault where
  deriving DecidableEq, Repr

/-- Why an operation has no meaning. -/
inductive Refusal where
  /-- Raised by an arm of exec that has no meaning yet; no arm of this model raises it (R120), so it is safe. -/
  | notModelled (mnemonic : String)
  deriving DecidableEq, Repr

/-- The machine: the block, its outputs and its configuration, and the side of the environment that a step reads. -/
structure State where
  /-- The block's registers (R20). -/
  regs : Regs
  /-- What the last step drives, valid until the next edge (R52; log entry 5). -/
  out : Outputs
  /-- The parameters of this build; no operation changes them (R29; log entry 1). -/
  config : Config
  /-- The words the environment will present at the next edges, oldest first, as numbers of `T_W + 3` bits (R50; log
  entry 3). -/
  stimulus : List Nat
  /-- How many edges have been stepped: it numbers the free input words (log entry 4). -/
  edge : Nat
  deriving DecidableEq, Repr

/-- The registers after RESET (R20, R140; log entry 7). -/
def Regs.afterReset : Regs :=
  { rawLevel := false, stableSince := 0, confirmedLevel := false, pressLatched := false, mode := .manual }

/-- The outputs RESET drives: all 0 (R140). -/
def Outputs.afterReset : Outputs :=
  { pressEvt := false, releaseEvt := false, modeEntry := false, dispatchValid := false,
    dispatchMode := .manual, mode := .manual, confirmedLevel := false }

/-- The machine right after reset (R140), in the reference configuration, with nothing presented yet (log entries 3, 4
and 6). -/
def State.reset : State :=
  { regs := Regs.afterReset, out := Outputs.afterReset, config := Config.reference, stimulus := [], edge := 0 }

end Sys2Proof.Machine
end

