-- ==== Sys2Proof/Machine/Flags.lean ====
section
/-! DEFINITION. The detector's two flags and two events, from the stability of the sampled level
(10_state.md R28; 40_edge_detector.md R73 to R76). -/

namespace Sys2Proof.Machine

/-- `press_evt := stable && sample == 1 && !s.pressLatched` (R73). -/
def pressEvent (r : Regs) (isStable sample : Bool) : Bool := isStable && sample && !r.pressLatched

/-- `s'.pressLatched <- stable ? sample : s.pressLatched` (R74). -/
def latchAfter (r : Regs) (isStable sample : Bool) : Bool := if isStable then sample else r.pressLatched

/-- `s'.confirmedLevel <- stable ? sample : s.confirmedLevel` (R75). -/
def confirmedAfter (r : Regs) (isStable sample : Bool) : Bool := if isStable then sample else r.confirmedLevel

/-- `release_evt := stable && sample == 0 && s.pressLatched` (R76). -/
def releaseEvent (r : Regs) (isStable sample : Bool) : Bool := isStable && !sample && r.pressLatched

end Sys2Proof.Machine
end

