-- ==== Sys2Proof/Machine/Operands.lean ====
section
/-! DEFINITION. What a TICK computes from its operands before any flag: change detection and the stability test
(40_edge_detector.md R71, R72). -/

namespace Sys2Proof.Machine

/-- `changed := (sample != s.rawLevel)` (R71). -/
def changed (r : Regs) (sample : Bool) : Bool := sample != r.rawLevel

/-- What a port or register of `T_W` bits holds of a time (R6, R50; log entry 2). -/
def narrow (tW : Nat) (time : Nat) : Nat := time % 2 ^ tW

/-- `s'.stableSince` of a TICK (R71). -/
def sinceAfter (tW : Nat) (r : Regs) (sample : Bool) (now : Nat) : Nat :=
  if changed r sample then narrow tW now else r.stableSince

/-- `age := (now - since) mod 2^T_W`, a difference of two `T_W`-bit values (R7, R72, R79, R80). -/
def age (tW : Nat) (since now : Nat) : Nat := (BitVec.ofNat tW now - BitVec.ofNat tW since).toNat

/-- `stable := age > W_MS`, unsigned and strict, on the `stableSince` that R71 has already updated (R72). -/
def stable (c : Config) (r : Regs) (sample : Bool) (now : Nat) : Bool :=
  c.wMs < age c.timeWidth (sinceAfter c.timeWidth r sample now) now

end Sys2Proof.Machine
end

