-- ==== Sys2Proof/Machine/Detector.lean ====
section
/-! DEFINITION. The Debounced Edge Detector, the first stage of every TICK (40_edge_detector.md R70 to R77). -/

namespace Sys2Proof.Machine

/-- What the detector hands on: the registers with its four fields written, and its two events (R70). -/
structure Detection where
  regs : Regs
  pressEvt : Bool
  releaseEvt : Bool
  deriving DecidableEq, Repr

/-- `detect(s, sample, now)` (R77) with the parameters `c`. The mode is neither read nor written (R70). -/
def detect (c : Config) (r : Regs) (sample : Bool) (now : Nat) : Detection :=
  { regs :=
      { r with
        rawLevel := sample
        stableSince := sinceAfter c.timeWidth r sample now
        confirmedLevel := confirmedAfter r (stable c r sample now) sample
        pressLatched := latchAfter r (stable c r sample now) sample }
    pressEvt := pressEvent r (stable c r sample now) sample
    releaseEvt := releaseEvent r (stable c r sample now) sample }

end Sys2Proof.Machine
end

