-- ==== Sys2Proof/Machine/Ports.lean ====
section
/-! DEFINITION. The 2-bit code of a mode (30_encoding.md R53) and the 9-bit output word (R52). -/

namespace Sys2Proof

/-- The code of a mode (R53). -/
def ModeId.toBits : ModeId → BitVec 2
  | .manual => 0b00
  | .quiz => 0b01
  | .logicGate => 0b10
  | .adc => 0b11

/-- The mode of a code; no code is reserved (R53). -/
def ModeId.ofBits (code : BitVec 2) : ModeId :=
  match code[1], code[0] with
  | false, false => .manual
  | false, true => .quiz
  | true, false => .logicGate
  | true, true => .adc

namespace Machine

/-- The output word: `{confirmed_level, mode, dispatch_mode, dispatch_valid, mode_entry, release_evt, press_evt}`,
`press_evt` in bit 0 (R52). -/
def Outputs.toWord (o : Outputs) : OutWord :=
  BitVec.ofBool o.confirmedLevel ++ o.mode.toBits ++ o.dispatchMode.toBits ++ BitVec.ofBool o.dispatchValid
    ++ BitVec.ofBool o.modeEntry ++ BitVec.ofBool o.releaseEvt ++ BitVec.ofBool o.pressEvt

/-- The record that an output word spells (R52). -/
def Outputs.ofWord (w : OutWord) : Outputs :=
  { pressEvt := w[0], releaseEvt := w[1], modeEntry := w[2], dispatchValid := w[3],
    dispatchMode := ModeId.ofBits (w.extractLsb' 4 2), mode := ModeId.ofBits (w.extractLsb' 6 2),
    confirmedLevel := w[8] }

end Machine
end Sys2Proof
end

