-- ==== Sys2Proof/Machine/ModeController.lean ====
section
/-! DEFINITION. The Mode Controller, the second stage of every TICK (41_mode_controller.md R90, R91). -/

namespace Sys2Proof.Machine

/-- `(mode + 1) mod 4` on the 2-bit code (R7, R90). -/
def nextMode (m : ModeId) : ModeId := ModeId.ofBits (m.toBits + 1)

/-- `advance`: `s'.mode <- press_evt ? (s.mode + 1) mod 4 : s.mode` (R90). -/
def advance (m : ModeId) (pressEvt : Bool) : ModeId := if pressEvt then nextMode m else m

/-- `mode_entry := press_evt` (R90, R91). -/
def modeEntry (pressEvt : Bool) : Bool := pressEvt

end Sys2Proof.Machine
end

