-- ==== Sys2Proof/Machine/Ops.lean ====
section
/-! DEFINITION. The shared operations over the state: landing a step (20_memory.md R43), and taking the input word of
an edge (30_encoding.md R50). The block takes no exceptions and returns from none (60_exceptions.md R120, R123, R124),
so there is no operation for either. -/

namespace Sys2Proof.Machine

/-- All writes of a step land together, with its outputs; nothing else of the state changes (R8, R43). -/
def State.commit (s : State) (regs : Regs) (out : Outputs) : State := { s with regs := regs, out := out }

/-- The outputs of a step that raises no pulse: the levels of the registers after it (R103, R104). -/
def quietOutputs (r : Regs) : Outputs :=
  { pressEvt := false, releaseEvt := false, modeEntry := false, dispatchValid := false,
    dispatchMode := r.mode, mode := r.mode, confirmedLevel := r.confirmedLevel }

/-- The input word sampled at the next edge: the oldest word of the stimulus; where there is none, the free word of
that edge (R50; log entry 3). -/
def State.nextInput (s : State) : Nat :=
  match s.stimulus with
  | w :: _ => w
  | [] => Config.freeInput s.edge

/-- The operation of the next edge, decoded in the layout of the state's build (R50, R54). -/
def State.nextOp (s : State) : Instr := decodeNumber s.config.timeWidth s.nextInput

/-- The state once the next edge's word has been sampled: the word is used up and the edge counted (log entries 3, 4). -/
def State.consumeInput (s : State) : State := { s with stimulus := s.stimulus.tail, edge := s.edge + 1 }

/-- The environment presents `w` at the next edge, before what it presents already (R50). -/
def State.present (s : State) (w : Nat) : State := { s with stimulus := w :: s.stimulus }

end Sys2Proof.Machine
end

