-- ==== Sys2Proof/Machine/Sequencing.lean ====
section
/-! DEFINITION. The meanings of the three operations: RESET (70_reset_and_hazards.md R140), TICK
(42_tick_sequencing.md R100 to R102) and HOLD (R103). None can stop (60_exceptions.md R120). -/

namespace Sys2Proof.Machine

/-- RESET: every register gets its reset value and every output is 0, whatever the state before (R140, R141). -/
def execReset (s : State) : Host.Outcome State Fault Refusal := .next (s.commit Regs.afterReset Outputs.afterReset)

/-- The registers after both stages of a TICK: the Edge Detector, then the Mode Controller on the same TICK's
`press_evt` (R100, R101). -/
def tickRegs (d : Detection) : Regs := { d.regs with mode := advance d.regs.mode d.pressEvt }

/-- Stage 3 of a TICK: the outputs for dispatch, which name the mode after the transition (R100, R102). -/
def tickOutputs (d : Detection) : Outputs :=
  { pressEvt := d.pressEvt
    releaseEvt := d.releaseEvt
    modeEntry := modeEntry d.pressEvt
    dispatchValid := true
    dispatchMode := (tickRegs d).mode
    mode := (tickRegs d).mode
    confirmedLevel := d.regs.confirmedLevel }

/-- TICK (R100). -/
def execTick (sample : Bool) (now : Nat) (s : State) : Host.Outcome State Fault Refusal :=
  let d := detect s.config s.regs sample now
  .next (s.commit (tickRegs d) (tickOutputs d))

/-- HOLD: no register changes and no pulse is raised (R103). -/
def execHold (s : State) : Host.Outcome State Fault Refusal := .next (s.commit s.regs (quietOutputs s.regs))

end Sys2Proof.Machine
end

