-- ==== Sys2Proof/Machine/Dispatch.lean ====
section
/-! DEFINITION. One arm per operation of spec/opcode_table.json (30_encoding.md R54). -/

namespace Sys2Proof.Machine

/-- What an operation does to the machine at one clock edge (R9). -/
def exec (i : Instr) (s : State) : Host.Outcome State Fault Refusal :=
  match i with
  | .reset => Sys2Proof.Machine.execReset s
  | .tick sample now => Sys2Proof.Machine.execTick sample now s
  | .hold => Sys2Proof.Machine.execHold s

end Sys2Proof.Machine
end

