-- ==== Sys2Proof/Machine/Step.lean ====
section
/-! DEFINITION. One clock edge (00_scope.md R9): the input word is sampled, decoded and executed. -/

namespace Sys2Proof.Machine

/-- `step(s, in)` of R9, `in` being the word the environment presents at this edge. -/
def step (s : State) : Host.Outcome State Fault Refusal := exec s.nextOp s.consumeInput

/-- `s` with the given table word presented at the next edge; a number that is no input word is not presented. The table
gives the words of the reference layout, `T_W` = 32, which is that of State.reset (log entry 13). -/
def State.withFetchWord (s : State) (nbits w : Nat) : State :=
  match inputWord nbits w with
  | .ok v => s.present v.toNat
  | .error _ => s

end Sys2Proof.Machine
end

