-- ==== Sys2Proof/Machine/Downstream.lean ====
section
/-! DEFINITION. What the outputs of a step ask of the downstream, which is outside the block: the side effects of a
mode transition (41_mode_controller.md R92) and the dispatch (42_tick_sequencing.md R102), in the order of
70_reset_and_hazards.md R149. Nothing in the block performs them. -/

namespace Sys2Proof.Machine

/-- One duty of the downstream. -/
inductive Duty where
  /-- The Quiz mode goes to its NeedsTarget state (R92 (a)). -/
  | quizNeedsTarget
  /-- The Display Sink is cleared (R92 (b)). -/
  | clearDisplay
  /-- The mode's name is written at a position of row and column (R92 (c)). -/
  | writeName (name : String) (pos : Nat × Nat)
  /-- Exactly this mode runs for this tick (R102). -/
  | runMode (m : ModeId)
  deriving DecidableEq, Repr

/-- The side effects that `mode_entry` asks for (R92); their order among themselves is the source's (log entry 16). -/
def entryDuties (o : Outputs) : List Duty :=
  if o.modeEntry then
    [.quizNeedsTarget, .clearDisplay, .writeName (Config.modeName o.dispatchMode) Config.namePos]
  else []

/-- The mode that `dispatch_valid` asks to run (R102). -/
def dispatchDuties (o : Outputs) : List Duty := if o.dispatchValid then [.runMode o.dispatchMode] else []

/-- Everything a step's outputs ask for: the side effects come before the mode runs (R102, R149). -/
def Outputs.duties (o : Outputs) : List Duty := entryDuties o ++ dispatchDuties o

end Sys2Proof.Machine
end

