-- ==== Sys2Proof/Machine/Stimulus.lean ====
section
/-! DEFINITION. The stimulus notation of 30_encoding.md R58: the lines in which the spec writes what the environment
presents, and the input words each line stands for, in the reference layout (`T_W` = 32) that R58 uses. -/

namespace Sys2Proof

/-- One line of the notation. `pressed` is the letter: true = `P`, false = `R`; times are the decimal numbers written. -/
inductive StimLine where
  /-- `RESET` -/
  | reset
  /-- `TICK P @t` or `TICK R @t` -/
  | tick (pressed : Bool) (t : Nat)
  /-- `HOLD` -/
  | hold
  /-- `HOLD xN` -/
  | holds (n : Nat)
  /-- `TICKS L @t0 +d xN` -/
  | ticks (pressed : Bool) (t0 d n : Nat)
  deriving DecidableEq, Repr

/-- The operations a line stands for, in order; the times of `TICKS` are taken modulo `2^32` (R58). -/
def StimLine.ops : StimLine → List Instr
  | .reset => [.reset]
  | .tick pressed t => [.tick pressed (t % 2 ^ 32)]
  | .hold => [.hold]
  | .holds n => List.replicate n .hold
  | .ticks pressed t0 d n => (List.range n).map fun i => .tick pressed ((t0 + i * d) % 2 ^ 32)

/-- The input words a line stands for: the canonical word of each of its operations (R58). -/
def StimLine.words (line : StimLine) : List InWord := line.ops.map encode

end Sys2Proof
end

