-- ==== Sys2Proof/WellFormed.lean ====
section
/-! DEFINITION. What is well formed: a configuration, an operation in a build, a number taken for an input word, a line
of the stimulus notation. -/

namespace Sys2Proof

/-- A configuration is well formed when the window is in `0 .. 2^T_W - 1` (00_scope.md R6). -/
def Config.wf (c : Config) : Bool := c.wMs < 2 ^ c.timeWidth

/-- An operation is well formed in a build when its time fits the build's `T_W` bits; no other operand value is illegal
or reserved (30_encoding.md R55, R56). -/
def Instr.wf (tW : Nat) : Instr → Bool
  | .reset => true
  | .tick _ now => now < 2 ^ tW
  | .hold => true

/-- A number is an input word exactly when it fits 35 bits (R50, R57). -/
def wordFits (w : Nat) : Bool := w < 2 ^ 35

/-- A line of the notation is well formed when its written time is in `0 .. 2^32 - 1` (R58). -/
def StimLine.wf : StimLine → Bool
  | .reset => true
  | .tick _ t => t < 2 ^ 32
  | .hold => true
  | .holds _ => true
  | .ticks _ t0 _ _ => t0 < 2 ^ 32

end Sys2Proof
end

