-- ==== Sys2Proof/Safety.lean ====
section
/-! DEFINITION. The terms in which statements speak of runs: operations in sequence, the TICKs of a sampled level, the
events they raise, the environment's premises (40_edge_detector.md section 5; 42_tick_sequencing.md R108), and the
invariant of the block (10_state.md R33). -/

namespace Sys2Proof.Machine

/-- The state of a next outcome; where the outcome is a stop, the state given. No operation stops (R120). -/
def nextOr (s : State) : Host.Outcome State Fault Refusal → State
  | .next t => t
  | .fault _ => s
  | .refused _ => s

/-- The operations executed one after the other, up to the first stop. -/
def runOps : List Instr → State → Host.Outcome State Fault Refusal
  | [], s => .next s
  | i :: rest, s =>
    match exec i s with
    | .next t => runOps rest t
    | .fault f => .fault f
    | .refused r => .refused r

/-- Each operation of a sequence with the outputs it drives, up to the first stop. -/
def outputTrace : List Instr → State → List (Instr × Outputs)
  | [], _ => []
  | i :: rest, s =>
    match exec i s with
    | .next t => (i, t.out) :: outputTrace rest t
    | .fault _ => []
    | .refused _ => []

/-- The state before TICK `k`, when the TICKs `0, 1, 2, …` have samples `b` and times `t` and the state before TICK 0 is
`s` (40_edge_detector.md section 5). -/
def ticked (s : State) (b : Nat → Bool) (t : Nat → Nat) : Nat → State
  | 0 => s
  | k + 1 => nextOr (ticked s b t k) (exec (.tick (b k) (t k)) (ticked s b t k))

/-- TICK `k` raises `press_evt`: it shows in the outputs that TICK `k` leaves. -/
def pressAt (s : State) (b : Nat → Bool) (t : Nat → Nat) (k : Nat) : Prop := (ticked s b t (k + 1)).out.pressEvt = true

/-- The premise of R80 on TICKs `j` to `m`: the time base does not go backwards and does not wrap (all times below
`2^T_W`). -/
def monotoneFromTo (tW : Nat) (t : Nat → Nat) (j m : Nat) : Prop :=
  (∀ i, j ≤ i → i < m → t i ≤ t (i + 1)) ∧ ∀ i, j ≤ i → i ≤ m → t i < 2 ^ tW

/-- The time of TICK `k` is more than the debounce window after the time of TICK `j`, on the monotone time base. -/
def longerThanWindow (w : Nat) (t : Nat → Nat) (j k : Nat) : Prop := t j + w < t k

/-- The two events of the detector (R73, R76). -/
inductive Event where
  | press
  | release
  deriving DecidableEq, Repr

/-- The events that one step's outputs show. -/
def eventsOf (o : Outputs) : List Event :=
  (if o.pressEvt then [.press] else []) ++ (if o.releaseEvt then [.release] else [])

/-- Presses and releases strictly alternate, the first being the given one (R81). -/
def alternates : Event → List Event → Bool
  | _, [] => true
  | e, f :: rest => e = f && alternates (match e with | .press => .release | .release => .press) rest

/-- An operation other than RESET: what the laws of a run after RESET are about. -/
def isRunning : Instr → Bool
  | .reset => false
  | .tick _ _ => true
  | .hold => true

/-- The invariant of the block (R33, R52, R91, R104, R122): latch and confirmed level agree; the outputs that show
levels show the registers; `mode_entry` is `press_evt`; the two events exclude each other; no pulse comes without
`dispatch_valid`. -/
def Consistent (s : State) : Prop :=
  s.regs.pressLatched = s.regs.confirmedLevel ∧
  s.out.mode = s.regs.mode ∧
  s.out.dispatchMode = s.regs.mode ∧
  s.out.confirmedLevel = s.regs.confirmedLevel ∧
  s.out.modeEntry = s.out.pressEvt ∧
  ¬ (s.out.pressEvt = true ∧ s.out.releaseEvt = true) ∧
  ((s.out.pressEvt = true ∨ s.out.releaseEvt = true) → s.out.dispatchValid = true)

/-- The widths of R6 and R20: the window and the register `stableSince` fit the build's `T_W` bits. -/
def Fits (s : State) : Prop := s.config.wf = true ∧ s.regs.stableSince < 2 ^ s.config.timeWidth

end Sys2Proof.Machine
end

