-- ==== Sys2Proof/Certificates/Slice0/Obligations.lean ====
section
/-! DEFINITION. The statements for the provers, from the rules of spec/. Statements about runs take the state they start
from as they find it: where they need a premise on it, that premise is in the statement. -/

open Sys2Proof Sys2Proof.Machine

/-! ## The input word, the output word and the mode codes -/

/-- Decoding the canonical word of a well-formed operation gives it back, with every sample and every time the build's
width admits (30_encoding.md sections 1, 4 and 5; the layout for widths other than 32 is the model's choice, log
entry 2). -/
def Obligations.DecodeEncodeRoundTrip : Prop :=
  ∀ (tW : Nat) (i : Instr), i.wf tW = true → decodeAt tW (encodeAt tW i) = i

/-- At every width of the time base, `rst`, `tick` and `btn_n` are the three bits above `now`, and the word is decoded
from them; with the reference width the layout is R50's (30_encoding.md sections 1 and 4; the layout for widths other
than 32 is the model's choice, log entry 2). -/
def Obligations.WordLayoutFollowsTheTimeWidth : Prop :=
  (∀ (tW : Nat) (w : InWordAt tW),
    (w.getLsbD (tW + 2) = true → decodeAt tW w = .reset) ∧
    (w.getLsbD (tW + 2) = false → w.getLsbD (tW + 1) = true →
      decodeAt tW w = .tick (!w.getLsbD tW) (w.toNat % 2 ^ tW)) ∧
    (w.getLsbD (tW + 2) = false → w.getLsbD (tW + 1) = false → decodeAt tW w = .hold)) ∧
  (∀ w : InWord, decodeAt 32 w = decode w) ∧ (∀ n : Nat, decodeNumber 32 n = decode (BitVec.ofNat 35 n))

/-- Encoding what a word decodes to keeps every bit the operation reads and clears the ignored ones
(30_encoding.md sections 4 and 5). -/
def Obligations.EncodeDecodeKeepsReadBits : Prop :=
  ∀ w : InWord, encode (decode w) = if w[34] then 0x400000000#35 else if w[33] then w else 0#35

/-- R54, R55: every word is in exactly one row of the opcode table, which names the decoded operation; the operation is
given by `in[34]` and `in[33]`, and TICK's operands are `NOT in[32]` and `in[31:0]`. -/
def Obligations.EveryWordDecodesToItsTableRow : Prop :=
  ∀ w : InWord,
    (∃ r, r ∈ opcodeTable ∧ r.covers w = true ∧ (decode w).mnemonic = r.mnemonic ∧
      ∀ r' ∈ opcodeTable, r'.covers w = true → r' = r) ∧
    (w[34] = true → decode w = .reset) ∧
    (w[34] = false → w[33] = true → decode w = .tick (!w[32]) (w.toNat % 2 ^ 32)) ∧
    (w[34] = false → w[33] = false → decode w = .hold)

/-- R56: every word runs, and what stands in the fields that RESET (`in[33:0]`) or HOLD (`in[32:0]`) ignores does not
change the result. -/
def Obligations.IgnoredFieldsNeverMatter : Prop :=
  ∀ (s : State) (w v : InWord),
    (∃ t, exec (decode w) s = .next t) ∧
    (w[34] = true → v[34] = true → exec (decode w) s = exec (decode v) s) ∧
    (w[34] = false → w[33] = false → v[34] = false → v[33] = false →
      exec (decode w) s = exec (decode v) s)

/-- The words of 95_test_vectors.md section 2.1 decode as it lists them. -/
def Obligations.SpecWordsDecode : Prop :=
  decode 0x400000000#35 = .reset ∧ decode 0x600000000#35 = .reset ∧ decode 0x7FFFFFFFF#35 = .reset ∧
  decode 0x200000000#35 = .tick true 0 ∧ decode 0x3FFFFFFFF#35 = .tick false 4294967295 ∧
  decode 0x20000041B#35 = .tick true 1051 ∧ decode 0x000000000#35 = .hold ∧ decode 0x1FFFFFFFF#35 = .hold

/-- A number placed as the next input word of a build with the table's layout (`T_W` = 32) is the operation that the
next step runs, and a number of more than 35 bits is no input word. How a word is placed is the model's choice (log
entries 3, 4 and 13). -/
def Obligations.PlacedWordRunsNext : Prop :=
  (∀ (s : State) (nbits w : Nat), s.config.timeWidth = 32 → 35 ≤ nbits → w < 2 ^ 35 →
    decodeTableWord nbits w = some (decode (BitVec.ofNat 35 w)) ∧
    step (s.withFetchWord nbits w) = exec (decode (BitVec.ofNat 35 w)) { s with edge := s.edge + 1 }) ∧
  (∀ nbits w : Nat, w < 2 ^ nbits → 2 ^ 35 ≤ w → decodeTableWord nbits w = none)

/-- The table of 30_encoding.md section 2: which bits of the output word show which output. -/
def Obligations.OutputWordShowsEveryField : Prop :=
  ∀ o : Outputs,
    o.toWord[0] = o.pressEvt ∧ o.toWord[1] = o.releaseEvt ∧ o.toWord[2] = o.modeEntry ∧
    o.toWord[3] = o.dispatchValid ∧ o.toWord.extractLsb' 4 2 = o.dispatchMode.toBits ∧
    o.toWord.extractLsb' 6 2 = o.mode.toBits ∧ o.toWord[8] = o.confirmedLevel ∧
    Outputs.ofWord o.toWord = o

/-- R53: the codes of the four modes, none of the four 2-bit codes being reserved. -/
def Obligations.ModeCodesAreTheFourCodes : Prop :=
  ModeId.manual.toBits = 0b00#2 ∧ ModeId.quiz.toBits = 0b01#2 ∧ ModeId.logicGate.toBits = 0b10#2 ∧
  ModeId.adc.toBits = 0b11#2 ∧
  (∀ m : ModeId, ModeId.ofBits m.toBits = m) ∧ (∀ c : BitVec 2, (ModeId.ofBits c).toBits = c)

/-- The stimulus notation of 30_encoding.md section 5: the words each line stands for, as numbers, and the operations
they decode to. -/
def Obligations.StimulusLinesGiveTheirWords : Prop :=
  (StimLine.reset.words.map BitVec.toNat = [0x400000000]) ∧
  (∀ t : Nat, t < 2 ^ 32 →
    (StimLine.tick true t).words.map BitVec.toNat = [0x200000000 + t] ∧
    (StimLine.tick false t).words.map BitVec.toNat = [0x300000000 + t]) ∧
  (StimLine.hold.words.map BitVec.toNat = [0]) ∧
  (∀ n : Nat, (StimLine.holds n).words.map BitVec.toNat = List.replicate n 0) ∧
  (∀ (pressed : Bool) (t0 d n : Nat),
    (StimLine.ticks pressed t0 d n).words.map BitVec.toNat =
      (List.range n).map fun i => (if pressed then 0x200000000 else 0x300000000) + (t0 + i * d) % 2 ^ 32) ∧
  (∀ line : StimLine, line.words.map decode = line.ops)

/-! ## One step -/

/-- A step samples one input word, counts the edge and runs the operation the word decodes to: the oldest word of the
stimulus, or the free word of that edge where there is none (00_scope.md section 4, 30_encoding.md section 1; that the
words stand in State is the model's choice, log entries 3 and 4). -/
def Obligations.StepRunsTheDecodedOperation : Prop :=
  (∀ (s : State) (w : Nat) (rest : List Nat), s.stimulus = w :: rest →
    step s = exec (decodeNumber s.config.timeWidth w) { s with stimulus := rest, edge := s.edge + 1 }) ∧
  (∀ s : State, s.stimulus = [] →
    step s = exec (decodeNumber s.config.timeWidth (Config.freeInput s.edge)) { s with edge := s.edge + 1 })

/-- R120: whatever the input word and whatever the state, the operation completes, in R50's layout and in that of any
other width. -/
def Obligations.EveryInputWordCompletes : Prop :=
  (∀ (w : InWord) (s : State), ∃ t, exec (decode w) s = .next t) ∧
  (∀ (tW n : Nat) (s : State), ∃ t, exec (decodeNumber tW n) s = .next t)

/-- The host's machine run on a stimulus does what the decoded operations do one after the other, and no run of it ends
in a stop (00_scope.md section 4, 60_exceptions.md section 1; the stimulus is the model's choice, log entry 3). -/
def Obligations.StimulusRunsAsItsOperations : Prop :=
  ∀ (ws rest : List Nat) (s : State), ∃ t,
    runOps (ws.map (decodeNumber s.config.timeWidth)) s = .next t ∧
    Sys2Proof.core.run ws.length { s with stimulus := ws ++ rest } =
      .next { t with stimulus := rest, edge := s.edge + ws.length }

/-- R140: every word with `in[34]` = 1 is RESET, whatever `tick` and the rest; RESET completes from every state with
every register at its reset value and every output 0; it changes nothing else. -/
def Obligations.ResetNextState : Prop :=
  (∀ w : InWord, w[34] = true → decode w = .reset) ∧
  ∀ s : State, exec .reset s = .next { s with
    regs := { rawLevel := false, stableSince := 0, confirmedLevel := false, pressLatched := false, mode := .manual }
    out := { pressEvt := false, releaseEvt := false, modeEntry := false, dispatchValid := false,
             dispatchMode := .manual, mode := .manual, confirmedLevel := false } }

/-- R100 (with R71 to R74, R77 and R90): every word with `in[34:33]` = 01 is TICK with the operands `NOT in[32]` and
`in[31:0]`; TICK completes from every state with the registers and outputs of its pseudocode, the elapsed time taken
modulo `2^T_W`; it changes nothing else. -/
def Obligations.TickNextState : Prop :=
  (∀ w : InWord, w[34] = false → w[33] = true → decode w = .tick (!w[32]) (w.toNat % 2 ^ 32)) ∧
  ∀ (sample : Bool) (now : Nat) (s : State),
    let range : Nat := 2 ^ s.config.timeWidth
    let since : Nat := if sample = s.regs.rawLevel then s.regs.stableSince else now % range
    let isStable : Bool := decide (s.config.wMs < (now % range + range - since % range) % range)
    let press : Bool := decide (isStable = true ∧ sample = true ∧ s.regs.pressLatched = false)
    let release : Bool := decide (isStable = true ∧ sample = false ∧ s.regs.pressLatched = true)
    let mode : ModeId := if press then ModeId.ofBits (s.regs.mode.toBits + 1) else s.regs.mode
    let confirmed : Bool := if isStable then sample else s.regs.confirmedLevel
    let latched : Bool := if isStable then sample else s.regs.pressLatched
    exec (.tick sample now) s = .next { s with
      regs := { rawLevel := sample, stableSince := since, confirmedLevel := confirmed, pressLatched := latched,
                mode := mode }
      out := { pressEvt := press, releaseEvt := release, modeEntry := press, dispatchValid := true,
               dispatchMode := mode, mode := mode, confirmedLevel := confirmed } }

/-- R103: every word with `in[34:33]` = 00 is HOLD; HOLD completes from every state; no register changes, no pulse is
raised, and the levels are shown. -/
def Obligations.HoldNextState : Prop :=
  (∀ w : InWord, w[34] = false → w[33] = false → decode w = .hold) ∧
  ∀ s : State, exec .hold s = .next { s with
    out := { pressEvt := false, releaseEvt := false, modeEntry := false, dispatchValid := false,
             dispatchMode := s.regs.mode, mode := s.regs.mode, confirmedLevel := s.regs.confirmedLevel } }

/-- R93: only a TICK that raises `press_evt`, by one step of the cycle, or a RESET, to Manual, changes the mode; HOLD
never does, nor does a TICK that raises `release_evt`. -/
def Obligations.ModeChangesOnlyByPressOrReset : Prop :=
  ∀ (i : Instr) (s t : State), exec i s = .next t →
    (t.regs.mode ≠ s.regs.mode →
      (i = .reset ∧ t.regs.mode = .manual) ∨
      ((∃ b now, i = .tick b now) ∧ t.out.pressEvt = true ∧ t.regs.mode = ModeId.ofBits (s.regs.mode.toBits + 1))) ∧
    (i = .hold → t.regs.mode = s.regs.mode) ∧
    (t.out.releaseEvt = true → t.regs.mode = s.regs.mode)

/-- R91: on every TICK `mode_entry` is `press_evt`, and it is 1 exactly when the TICK changes the mode; it is 0 on every
HOLD and every RESET. -/
def Obligations.ModeEntryMarksTransitions : Prop :=
  (∀ (b : Bool) (now : Nat) (s t : State), exec (.tick b now) s = .next t →
    t.out.modeEntry = t.out.pressEvt ∧ (t.out.modeEntry = true ↔ t.regs.mode ≠ s.regs.mode)) ∧
  (∀ s t : State, exec .hold s = .next t → t.out.modeEntry = false) ∧
  (∀ s t : State, exec .reset s = .next t → t.out.modeEntry = false)

/-- R104: on every operation the outputs `mode` and `confirmed_level` show the state after the step, and the pulse
outputs are 0 on every operation other than TICK. -/
def Obligations.OutputsShowTheStateAfter : Prop :=
  ∀ (i : Instr) (s t : State), exec i s = .next t →
    t.out.mode = t.regs.mode ∧ t.out.confirmedLevel = t.regs.confirmedLevel ∧
    ((∀ b now, i ≠ .tick b now) →
      t.out.pressEvt = false ∧ t.out.releaseEvt = false ∧ t.out.modeEntry = false ∧ t.out.dispatchValid = false)

/-- R122: `rst` with `tick` is a RESET, which leaves nothing of the tick; on a TICK, `press_evt` and `mode_entry` are
equal, and `press_evt` and `release_evt` are never both 1. -/
def Obligations.SimultaneousEventsAreSettled : Prop :=
  (∀ (s : State) (w : InWord), w[34] = true → w[33] = true → exec (decode w) s = exec .reset s) ∧
  (∀ (b : Bool) (now : Nat) (s t : State), exec (.tick b now) s = .next t →
    t.out.modeEntry = t.out.pressEvt ∧ ¬ (t.out.pressEvt = true ∧ t.out.releaseEvt = true))

/-- R28: an operation that changes `pressLatched` or `confirmedLevel` is a RESET, which clears both, or a TICK on which
the level is stable, which gives both the sampled level; RESET leaves both 0. -/
def Obligations.FlagsChangeOnlyOnStableTickOrReset : Prop :=
  ∀ (i : Instr) (s t : State), exec i s = .next t →
    (i = .reset → t.regs.pressLatched = false ∧ t.regs.confirmedLevel = false) ∧
    ((t.regs.pressLatched ≠ s.regs.pressLatched ∨ t.regs.confirmedLevel ≠ s.regs.confirmedLevel) → i ≠ .reset →
      ∃ b now, i = .tick b now ∧
        s.config.wMs < (now % 2 ^ s.config.timeWidth + 2 ^ s.config.timeWidth
          - t.regs.stableSince % 2 ^ s.config.timeWidth) % 2 ^ s.config.timeWidth ∧
        t.regs.pressLatched = b ∧ t.regs.confirmedLevel = b)

/-- 40_edge_detector.md section 2: in a state where latch and confirmed level agree, a TICK raises `release_evt` exactly
when it clears the latch, which is exactly when it takes the confirmed level from 1 to 0. -/
def Obligations.ReleaseEventIsTheLatchClearing : Prop :=
  ∀ (b : Bool) (now : Nat) (s t : State), s.regs.pressLatched = s.regs.confirmedLevel →
    exec (.tick b now) s = .next t →
    (t.out.releaseEvt = true ↔ s.regs.pressLatched = true ∧ t.regs.pressLatched = false) ∧
    (t.out.releaseEvt = true ↔ s.regs.confirmedLevel = true ∧ t.regs.confirmedLevel = false)

/-- 40_edge_detector.md section 4, case (a): a TICK whose sample differs from `rawLevel` writes `rawLevel` and
`stableSince`, raises no event, and leaves latch, confirmed level and mode. -/
def Obligations.ChangeTickIsSilent : Prop :=
  ∀ (now : Nat) (s : State), exec (.tick (!s.regs.rawLevel) now) s = .next { s with
    regs := { s.regs with rawLevel := !s.regs.rawLevel, stableSince := now % 2 ^ s.config.timeWidth }
    out := { pressEvt := false, releaseEvt := false, modeEntry := false, dispatchValid := true,
             dispatchMode := s.regs.mode, mode := s.regs.mode, confirmedLevel := s.regs.confirmedLevel } }

/-- 42_tick_sequencing.md section 3 and 40_edge_detector.md section 4: where raw level, latch and confirmed level agree,
a TICK that samples the same level leaves every register and raises no event, at any time of the time base, a wrap
included. -/
def Obligations.QuietTickChangesNoRegister : Prop :=
  ∀ (now : Nat) (s : State), s.regs.pressLatched = s.regs.rawLevel → s.regs.confirmedLevel = s.regs.rawLevel →
    exec (.tick s.regs.rawLevel now) s = .next { s with
      out := { pressEvt := false, releaseEvt := false, modeEntry := false, dispatchValid := true,
               dispatchMode := s.regs.mode, mode := s.regs.mode, confirmedLevel := s.regs.confirmedLevel } }

/-- 40_edge_detector.md section 4 and 70_reset_and_hazards.md section 3: a held, unlatched level that changed at real
time `a` is reported at real time `b` by the gap modulo `2^T_W`, which is the gap itself below `2^T_W`; where the time
base went backwards from `a` to `b`, by `2^T_W` less the distance. -/
def Obligations.PressDecidedByModularElapsedTime : Prop :=
  ∀ (s : State) (range a b : Nat), range = 2 ^ s.config.timeWidth →
    s.regs.rawLevel = true → s.regs.pressLatched = false → s.regs.stableSince = a % range →
    ∃ t, exec (.tick true (b % range)) s = .next t ∧
      (a ≤ b → (t.out.pressEvt = true ↔ s.config.wMs < (b - a) % range)) ∧
      (a ≤ b → b - a < range → (t.out.pressEvt = true ↔ s.config.wMs < b - a)) ∧
      (b < a → a - b < range → (t.out.pressEvt = true ↔ s.config.wMs < range - (a - b)))

/-- The parameters are fixed: no step changes the configuration (10_state.md section 2; that it stands in State is
the model's choice, log entry 1). -/
def Obligations.NoStepChangesTheConfiguration : Prop := ∀ s t : State, step s = .next t → t.config = s.config

/-- 41_mode_controller.md section 1, 42_tick_sequencing.md section 1 and 70_reset_and_hazards.md section 3: a TICK asks
the downstream for the side effects of a transition, if it made one, and then to run the mode after the transition; HOLD
and RESET ask for nothing. The order of the side effects among themselves is the model's choice (log entry 16). -/
def Obligations.DutiesComeInOrder : Prop :=
  (∀ (b : Bool) (now : Nat) (s t : State), exec (.tick b now) s = .next t →
    t.out.duties =
      (if t.out.pressEvt then
        [.quizNeedsTarget, .clearDisplay, .writeName (Config.modeName t.regs.mode) Config.namePos] else []) ++
      [.runMode t.regs.mode]) ∧
  (∀ s t : State, exec .hold s = .next t → t.out.duties = []) ∧
  (∀ s t : State, exec .reset s = .next t → t.out.duties = [])

/-! ## Invariants -/

/-- 10_state.md section 3, with 30_encoding.md section 2: latch and confirmed level agree, and the outputs agree with
the registers and with one another, after every step from a state in which they do. -/
def Obligations.ConsistencyKeptByEveryStep : Prop := ∀ s t : State, Consistent s → step s = .next t → Consistent t

/-- The state right after RESET, from any state, meets that invariant, and so does the model's reset state. -/
def Obligations.ResetGivesConsistency : Prop :=
  Consistent State.reset ∧ ∀ s t : State, exec .reset s = .next t → Consistent t

/-- 10_state.md section 1 and 00_scope.md section 3: the window and the register `stableSince` fit the build's `T_W` bits
after every step from a state in which they do. -/
def Obligations.RegistersKeepTheirWidth : Prop := ∀ s t : State, Fits s → step s = .next t → Fits t

/-- The model's reset state meets that invariant, and so does the state after RESET in every well-formed build. -/
def Obligations.ResetFitsTheWidth : Prop :=
  Fits State.reset ∧ ∀ s t : State, s.config.wf = true → exec .reset s = .next t → Fits t

/-- 40_edge_detector.md section 5: from every state, an operation other than RESET raises `press_evt` exactly when it
takes the latch from 0 to 1, and `release_evt` exactly when it takes it from 1 to 0. -/
def Obligations.EventsAreTheLatchMoving : Prop :=
  ∀ (i : Instr) (s : State), isRunning i = true →
    ∃ t, exec i s = .next t ∧
      (t.out.pressEvt = true ↔ s.regs.pressLatched = false ∧ t.regs.pressLatched = true) ∧
      (t.out.releaseEvt = true ↔ s.regs.pressLatched = true ∧ t.regs.pressLatched = false)

/-- 10_state.md section 3: after a RESET and any operations, `stableSince` is 0 or the `now` of one of those TICKs. -/
def Obligations.StableSinceIsZeroOrASampledTime : Prop :=
  ∀ (is : List Instr) (s : State), ∃ t, runOps (.reset :: is) s = .next t ∧
    (t.regs.stableSince = 0 ∨
      ∃ b now, Instr.tick b now ∈ is ∧ t.regs.stableSince = now % 2 ^ s.config.timeWidth)

/-- 40_edge_detector.md section 1: the detector reads its four fields, its operands and the parameters, and nothing else.
From two states that agree on those, whatever their modes, the same operations raise the same events and leave the same
four fields. -/
def Obligations.ModeNeverAffectsTheDetector : Prop :=
  ∀ (is : List Instr) (s u : State),
    s.regs.rawLevel = u.regs.rawLevel → s.regs.stableSince = u.regs.stableSince →
    s.regs.confirmedLevel = u.regs.confirmedLevel → s.regs.pressLatched = u.regs.pressLatched →
    s.config.wMs = u.config.wMs → s.config.timeWidth = u.config.timeWidth →
    ∃ s' u', runOps is s = .next s' ∧ runOps is u = .next u' ∧
      s'.regs.rawLevel = u'.regs.rawLevel ∧ s'.regs.stableSince = u'.regs.stableSince ∧
      s'.regs.confirmedLevel = u'.regs.confirmedLevel ∧ s'.regs.pressLatched = u'.regs.pressLatched ∧
      (outputTrace is s).map (fun p => eventsOf p.2) = (outputTrace is u).map (fun p => eventsOf p.2)

/-! ## Laws over runs -/

/-- 40_edge_detector.md section 5: without a RESET in between, presses and releases strictly alternate; the first event
is a press where the latch is clear (as after RESET), a release where it is set. -/
def Obligations.PressAndReleaseAlternate : Prop :=
  ∀ (is : List Instr) (s : State), (∀ i ∈ is, isRunning i = true) →
    (outputTrace is s).length = is.length ∧
    alternates (if s.regs.pressLatched then .release else .press)
      ((outputTrace is s).flatMap fun p => eventsOf p.2) = true

/-- 41_mode_controller.md section 2: without a RESET in between, N presses move the mode N steps around the cycle of
four; from Manual they lead to mode `N mod 4`. -/
def Obligations.ModeCountsPressesModuloFour : Prop :=
  ∀ (is : List Instr) (s : State), (∀ i ∈ is, isRunning i = true) →
    ∃ t, runOps is s = .next t ∧
      t.regs.mode.toBits.toNat =
        (s.regs.mode.toBits.toNat + (outputTrace is s).countP (fun p => p.2.pressEvt)) % 4

/-- 40_edge_detector.md section 5: in the TICKs after a RESET, on a monotone time base, a press raised at TICK `k` has a
change tick `j` from which every sample was pressed, more than the window before. -/
def Obligations.PressNeedsALevelHeldPastTheWindow : Prop :=
  ∀ (s0 s : State) (b : Nat → Bool) (t : Nat → Nat) (k : Nat), exec .reset s0 = .next s →
    monotoneFromTo s.config.timeWidth t 0 k → pressAt s b t k →
    ∃ j, j ≤ k ∧ (∀ i, j ≤ i → i ≤ k → b i = true) ∧ (j = 0 ∨ b (j - 1) = false) ∧
      longerThanWindow s.config.wMs t j k

/-- 40_edge_detector.md section 5: a press whose change tick is TICK 0, found with the latch clear and held to TICK `m`
on a monotone time base, is reported at the first TICK more than the window after TICK 0 and at no other. -/
def Obligations.HeldPressReportedExactlyOnce : Prop :=
  ∀ (s : State) (b : Nat → Bool) (t : Nat → Nat) (m : Nat),
    s.regs.pressLatched = false → s.regs.rawLevel = false → (∀ i, i ≤ m → b i = true) → monotoneFromTo s.config.timeWidth t 0 m →
    ∀ k, k ≤ m →
      (pressAt s b t k ↔
        longerThanWindow s.config.wMs t 0 k ∧ ∀ i, i < k → ¬ longerThanWindow s.config.wMs t 0 i)

/-- 40_edge_detector.md section 5: a pressed run, from its change tick 0 to TICK `m` and released at TICK `m + 1`, whose
TICKs span at most the window raises no press. -/
def Obligations.ShortPressIsRejected : Prop :=
  ∀ (s : State) (b : Nat → Bool) (t : Nat → Nat) (m : Nat),
    s.regs.rawLevel = false → (∀ i, i ≤ m → b i = true) → b (m + 1) = false → monotoneFromTo s.config.timeWidth t 0 m →
    ¬ longerThanWindow s.config.wMs t 0 m →
    ∀ k, k ≤ m + 1 → ¬ pressAt s b t k

/-- 40_edge_detector.md section 5, the reading of the source's property: in the TICKs after a RESET, on a monotone time
base, TICK `k` raises a press if and only if a pressed run with the latch clear at its change tick `j` reaches to `k`,
and `k` is its first TICK more than the window after `j`. -/
def Obligations.PressIffFirstTickPastTheWindow : Prop :=
  ∀ (s0 s : State) (b : Nat → Bool) (t : Nat → Nat) (k : Nat), exec .reset s0 = .next s →
    monotoneFromTo s.config.timeWidth t 0 k →
    (pressAt s b t k ↔
      ∃ j, j ≤ k ∧ (∀ i, j ≤ i → i ≤ k → b i = true) ∧ (j = 0 ∨ b (j - 1) = false) ∧
        (ticked s b t j).regs.pressLatched = false ∧ longerThanWindow s.config.wMs t j k ∧
        ∀ i, j ≤ i → i < k → ¬ longerThanWindow s.config.wMs t j i)

/-- 10_state.md section 1, the source's invariant: in the TICKs after a RESET, on a monotone time base, a TICK `k` that
changes the confirmed level has a TICK `j` from which every sample was the new level, more than the window before. -/
def Obligations.ConfirmedLevelNeedsAConstantLevel : Prop :=
  ∀ (s0 s : State) (b : Nat → Bool) (t : Nat → Nat) (k : Nat), exec .reset s0 = .next s →
    monotoneFromTo s.config.timeWidth t 0 k →
    (ticked s b t (k + 1)).regs.confirmedLevel ≠ (ticked s b t k).regs.confirmedLevel →
    ∃ j, j ≤ k ∧ (∀ i, j ≤ i → i ≤ k → b i = (ticked s b t (k + 1)).regs.confirmedLevel) ∧
      longerThanWindow s.config.wMs t j k

/-- 40_edge_detector.md section 5: with TICKs evenly spaced `P` apart and no wrap, a press whose change tick is TICK 0,
found with the latch clear and held long enough, is reported at TICK `W_MS / P + 1` and at none before, later than the
window and at most one period later than it. -/
def Obligations.EventLatencyIsExact : Prop :=
  ∀ (s : State) (b : Nat → Bool) (t : Nat → Nat) (start P n : Nat),
    0 < P → n = s.config.wMs / P + 1 → start + n * P < 2 ^ s.config.timeWidth →
    (∀ i, i ≤ n → t i = start + i * P) → (∀ i, i ≤ n → b i = true) →
    s.regs.pressLatched = false → s.regs.rawLevel = false →
    pressAt s b t n ∧ (∀ k, k < n → ¬ pressAt s b t k) ∧ s.config.wMs < n * P ∧ n * P ≤ s.config.wMs + P

/-- 70_reset_and_hazards.md section 2: a button held through RESET is reported at the first TICK more than the window
after TICK 0; the mode is Manual up to that TICK and Quiz after it. -/
def Obligations.ButtonHeldThroughResetIsReported : Prop :=
  ∀ (s0 s : State) (b : Nat → Bool) (t : Nat → Nat) (k : Nat), exec .reset s0 = .next s →
    (∀ i, i ≤ k → b i = true) → monotoneFromTo s.config.timeWidth t 0 k → longerThanWindow s.config.wMs t 0 k →
    (∀ i, i < k → ¬ longerThanWindow s.config.wMs t 0 i) →
    pressAt s b t k ∧ (ticked s b t (k + 1)).regs.mode = .quiz ∧
      ∀ i, i ≤ k → (ticked s b t i).regs.mode = .manual

/-- 70_reset_and_hazards.md section 3 and 42_tick_sequencing.md section 2: HOLDs may stand anywhere, in any number. With
them and without them, a sequence leaves the same registers and configuration, and its other operations drive the same
outputs. -/
def Obligations.HoldsMayStandAnywhere : Prop :=
  ∀ (is : List Instr) (s : State), ∃ t u,
    runOps is s = .next t ∧ runOps (is.filter fun i => decide (i ≠ .hold)) s = .next u ∧
    t.regs = u.regs ∧ t.config = u.config ∧
    (outputTrace is s).filter (fun p => decide (p.1 ≠ .hold)) =
      outputTrace (is.filter fun i => decide (i ≠ .hold)) s

/-- 70_reset_and_hazards.md section 3, case (c): a press not yet confirmed at the last TICK before a success pause, and
still held at the first TICK after it, raises its event at that TICK. -/
def Obligations.PauseConfirmsAHeldPressAtOnce : Prop :=
  ∀ (s : State) (before after : Nat) (n : Nat),
    s.regs.rawLevel = true → s.regs.pressLatched = false → s.config.wMs < s.config.pauseMs →
    s.regs.stableSince ≤ before → before - s.regs.stableSince ≤ s.config.wMs →
    before + s.config.pauseMs ≤ after → after < 2 ^ s.config.timeWidth →
    (outputTrace (.tick true before :: (List.replicate n .hold ++ [.tick true after])) s).map (fun p => eventsOf p.2) =
      List.replicate (n + 1) [] ++ [[.press]]

/-- 70_reset_and_hazards.md section 3, cases (a) and (d): where level, latch and confirmed level agree, a change of the
button and back inside a success pause is never seen: no event, and no register changed. -/
def Obligations.PauseHidesAChangeAndBack : Prop :=
  ∀ (s : State) (before after : Nat) (n : Nat),
    s.regs.pressLatched = s.regs.rawLevel → s.regs.confirmedLevel = s.regs.rawLevel →
    (∃ t, runOps (.tick s.regs.rawLevel before :: (List.replicate n .hold ++ [.tick s.regs.rawLevel after])) s = .next t ∧
      t.regs = s.regs) ∧
    (outputTrace (.tick s.regs.rawLevel before :: (List.replicate n .hold ++ [.tick s.regs.rawLevel after])) s).flatMap
      (fun p => eventsOf p.2) = []
end

