-- ==== Sys2Proof/Laws/Decode.lean ====
section
/-! SUPPORT. Bit by bit what the encoder and the masks of the opcode table give. -/

namespace Sys2Proof

/-- Each bit of TICK's canonical word, at every width (30_encoding.md R50, R58). -/
theorem encodeAt_tick_getLsbD (tW : Nat) (sample : Bool) (now : Nat) (i : Nat) :
    (encodeAt tW (.tick sample now)).getLsbD i =
      if i < tW then (BitVec.ofNat tW now).getLsbD i else if i = tW then !sample else decide (i = tW + 1) := by
  change @BitVec.getLsbD (2 + 1 + tW) (0b01#2 ++ BitVec.ofBool (!sample) ++ BitVec.ofNat tW now) i = _
  rw [BitVec.getLsbD_append, BitVec.getLsbD_append]
  split
  · rfl
  · obtain ⟨k, rfl⟩ : ∃ k, i = tW + k := ⟨i - tW, by omega⟩
    rw [Nat.add_sub_cancel_left]
    match k with
    | 0 => simp
    | 1 => simp
    | k + 2 =>
      have h : (0b01#2).getLsbD (k + 1) = false := by
        cases k with
        | zero => decide
        | succ k => exact BitVec.getLsbD_of_ge _ _ (by omega)
      simp [h]

/-- The low bits of TICK's canonical word are the time the build's width holds of it. -/
theorem nowField_encodeAt_tick (tW : Nat) (sample : Bool) (now : Nat) :
    nowField (encodeAt tW (.tick sample now)) = now % 2 ^ tW := by
  apply Nat.eq_of_testBit_eq
  intro i
  have h := encodeAt_tick_getLsbD tW sample now i
  rw [BitVec.getLsbD] at h
  rw [nowField, Nat.testBit_mod_two_pow, Nat.testBit_mod_two_pow, h]
  by_cases hi : i < tW
  · simp only [hi, if_true, BitVec.getLsbD_ofNat, decide_true, Bool.true_and]
  · simp [hi]

/-- RESET's canonical word has `rst` set, at every width. -/
theorem rstLine_encodeAt_reset (tW : Nat) : rstLine (encodeAt tW .reset) = true := by
  change @BitVec.getLsbD (3 + tW) (0b100#3 ++ 0#tW) (tW + 2) = true
  rw [BitVec.getLsbD_append]
  simp

/-- HOLD's canonical word is 0, at every width. -/
theorem encodeAt_hold (tW : Nat) : encodeAt tW .hold = 0#(3 + tW) := by
  apply BitVec.eq_of_toNat_eq
  simp [encodeAt]

/-- Decoding in R50's layout, on the bits R50 numbers. -/
theorem decode_eq (w : InWord) :
    decode w = if w[34] then .reset else if w[33] then .tick (!w[32]) (w.toNat % 2 ^ 32) else .hold := rfl

/-- A word is a row's word when its masked bits are the row's match. -/
theorem OpcodeRow.covers_iff (r : OpcodeRow) (w : InWord) : r.covers w = true ↔ w &&& r.mask = r.value := by
  simp [OpcodeRow.covers]

/-- RESET's mask keeps `in[34]` alone. -/
theorem mask_rst (w : InWord) : w &&& 0x400000000#35 = if w[34] then 0x400000000#35 else 0#35 := by
  have e : 0x400000000#35 = BitVec.twoPow 35 34 := by decide
  rw [e]
  apply BitVec.eq_of_getElem_eq
  intro i hi
  by_cases h : i = 34
  · subst h
    cases hw : w[34] <;> simp [hw]
  · cases hw : w[34] <;> simp [h]

/-- The mask of TICK and HOLD keeps `in[34:33]`. -/
theorem mask_rst_tick (w : InWord) :
    w &&& 0x600000000#35 =
      if w[34] then (if w[33] then 0x600000000#35 else 0x400000000#35)
      else (if w[33] then 0x200000000#35 else 0#35) := by
  have e : 0x600000000#35 = BitVec.twoPow 35 34 ||| BitVec.twoPow 35 33 := by decide
  have e34 : 0x400000000#35 = BitVec.twoPow 35 34 := by decide
  have e33 : 0x200000000#35 = BitVec.twoPow 35 33 := by decide
  rw [e, e34, e33]
  apply BitVec.eq_of_getElem_eq
  intro i hi
  by_cases h34 : i = 34
  · subst h34
    cases hr : w[34] <;> cases ht : w[33] <;> simp [hr]
  · by_cases h33 : i = 33
    · subst h33
      cases hr : w[34] <;> cases ht : w[33] <;> simp [ht]
    · cases hr : w[34] <;> cases ht : w[33] <;> simp [h34, h33]

/-- A line of the stimulus notation stands for one word per operation. -/
@[simp] theorem StimLine.words_length (line : StimLine) : line.words.length = line.ops.length :=
  List.length_map ..

end Sys2Proof
end

