-- ==== Sys2Proof/Laws/State.lean ====
section
/-! SUPPORT. What each update of the state does to each field. -/

namespace Sys2Proof.Machine

variable (s : State) (r : Regs) (o : Outputs) (w : Nat)

@[simp] theorem State.commit_regs : (s.commit r o).regs = r := rfl
@[simp] theorem State.commit_out : (s.commit r o).out = o := rfl
@[simp] theorem State.commit_config : (s.commit r o).config = s.config := rfl
@[simp] theorem State.commit_stimulus : (s.commit r o).stimulus = s.stimulus := rfl
@[simp] theorem State.commit_edge : (s.commit r o).edge = s.edge := rfl

@[simp] theorem State.consumeInput_regs : s.consumeInput.regs = s.regs := rfl
@[simp] theorem State.consumeInput_out : s.consumeInput.out = s.out := rfl
@[simp] theorem State.consumeInput_config : s.consumeInput.config = s.config := rfl
@[simp] theorem State.consumeInput_stimulus : s.consumeInput.stimulus = s.stimulus.tail := rfl
@[simp] theorem State.consumeInput_edge : s.consumeInput.edge = s.edge + 1 := rfl

@[simp] theorem State.present_regs : (s.present w).regs = s.regs := rfl
@[simp] theorem State.present_out : (s.present w).out = s.out := rfl
@[simp] theorem State.present_config : (s.present w).config = s.config := rfl
@[simp] theorem State.present_stimulus : (s.present w).stimulus = w :: s.stimulus := rfl
@[simp] theorem State.present_edge : (s.present w).edge = s.edge := rfl

@[simp] theorem State.reset_regs : State.reset.regs = Regs.afterReset := rfl
@[simp] theorem State.reset_out : State.reset.out = Outputs.afterReset := rfl
@[simp] theorem State.reset_config : State.reset.config = Config.reference := rfl
@[simp] theorem State.reset_stimulus : State.reset.stimulus = [] := rfl
@[simp] theorem State.reset_edge : State.reset.edge = 0 := rfl

/-- The word of the next edge is a presented one (30_encoding.md R50). -/
@[simp] theorem State.nextInput_present : (s.present w).nextInput = w := rfl

/-- Sampling a presented word leaves the rest of the stimulus. -/
@[simp] theorem State.consumeInput_present : (s.present w).consumeInput = { s with edge := s.edge + 1 } := rfl

end Sys2Proof.Machine
end

