-- ==== Sys2Proof/Laws/Ops.lean ====
section
/-! SUPPORT. For each shared operation what it does, said once: the elapsed time, the two cases of a TICK's detector
stage, the mode transition, and the shape of every operation's result. -/

namespace Sys2Proof.Machine

/-- A narrowed value fits its width. -/
theorem narrow_lt (tW : Nat) (x : Nat) : narrow tW x < 2 ^ tW := Nat.mod_lt _ (Nat.two_pow_pos tW)

/-- A value that fits its width is what the port holds of it. -/
theorem narrow_of_lt {tW : Nat} {x : Nat} (h : x < 2 ^ tW) : narrow tW x = x := Nat.mod_eq_of_lt h

/-- R72 over the natural numbers: the elapsed time is the difference modulo `2^T_W`. -/
theorem age_eq (tW : Nat) (since now : Nat) :
    age tW since now = (now % 2 ^ tW + 2 ^ tW - since % 2 ^ tW) % 2 ^ tW := by
  simp only [age, BitVec.toNat_sub, BitVec.toNat_ofNat]
  have := Nat.mod_lt since (Nat.two_pow_pos tW)
  congr 1
  omega

/-- On a time base that did not go backwards or wrap the elapsed time is the plain difference (R80's premise). -/
theorem age_of_le {tW : Nat} {since now : Nat} (h : since ≤ now) (hn : now < 2 ^ tW) :
    age tW since now = now - since := by
  rw [age_eq, Nat.mod_eq_of_lt hn, Nat.mod_eq_of_lt (Nat.lt_of_le_of_lt h hn),
    show now + 2 ^ tW - since = now - since + 2 ^ tW by omega, Nat.add_mod_right, Nat.mod_eq_of_lt (by omega)]

/-- Just after the change the elapsed time is 0. -/
@[simp] theorem age_narrow_self (tW : Nat) (now : Nat) : age tW (narrow tW now) now = 0 := by
  rw [age, narrow, ← BitVec.toNat_ofNat, BitVec.ofNat_toNat]
  simp

/-- R72: the test is strict and unsigned. -/
theorem stable_iff (c : Config) (r : Regs) (sample : Bool) (now : Nat) :
    stable c r sample now = true ↔ c.wMs < age c.timeWidth (sinceAfter c.timeWidth r sample now) now := by
  simp [stable]

/-- R71: the sample differs from `rawLevel`. -/
theorem sinceAfter_of_ne {r : Regs} {sample : Bool} (h : sample ≠ r.rawLevel) (tW : Nat) (now : Nat) :
    sinceAfter tW r sample now = narrow tW now := by
  simp [sinceAfter, changed, h]

/-- R71: the sample is what `rawLevel` holds. -/
@[simp] theorem sinceAfter_same (tW : Nat) (r : Regs) (now : Nat) : sinceAfter tW r r.rawLevel now = r.stableSince := by
  simp [sinceAfter, changed]

/-- R71: the register keeps its width. -/
theorem sinceAfter_lt {tW : Nat} {r : Regs} (h : r.stableSince < 2 ^ tW) (sample : Bool) (now : Nat) :
    sinceAfter tW r sample now < 2 ^ tW := by
  unfold sinceAfter
  split
  · exact narrow_lt tW now
  · exact h

@[simp] theorem detect_rawLevel (c : Config) (r : Regs) (b : Bool) (now : Nat) :
    (detect c r b now).regs.rawLevel = b := rfl

@[simp] theorem detect_stableSince (c : Config) (r : Regs) (b : Bool) (now : Nat) :
    (detect c r b now).regs.stableSince = sinceAfter c.timeWidth r b now := rfl

@[simp] theorem detect_mode (c : Config) (r : Regs) (b : Bool) (now : Nat) :
    (detect c r b now).regs.mode = r.mode := rfl

/-- R77 on a TICK that is not stable: only the sampled level and its time are written, and no event is raised. -/
theorem detect_of_not_stable {c : Config} {r : Regs} {b : Bool} {now : Nat} (h : stable c r b now = false) :
    detect c r b now =
      { regs := { r with rawLevel := b, stableSince := sinceAfter c.timeWidth r b now }
        pressEvt := false, releaseEvt := false } := by
  simp [detect, h, confirmedAfter, latchAfter, pressEvent, releaseEvent]

/-- R77 on a stable TICK: latch and confirmed level take the sample, and the event tells whether the latch moved. -/
theorem detect_of_stable {c : Config} {r : Regs} {b : Bool} {now : Nat} (h : stable c r b now = true) :
    detect c r b now =
      { regs := { r with
          rawLevel := b, stableSince := sinceAfter c.timeWidth r b now, confirmedLevel := b, pressLatched := b }
        pressEvt := b && !r.pressLatched, releaseEvt := !b && r.pressLatched } := by
  simp [detect, h, confirmedAfter, latchAfter, pressEvent, releaseEvent]

/-- A TICK whose sample differs from `rawLevel` is never stable (R72). -/
theorem not_stable_of_change (c : Config) (r : Regs) (now : Nat) : stable c r (!r.rawLevel) now = false := by
  rw [← Bool.not_eq_true, stable_iff, sinceAfter_of_ne (by simp), age_narrow_self]
  omega

/-- R71 and R72 together, over the natural numbers. -/
theorem stable_eq_decide (c : Config) (r : Regs) (b : Bool) (now : Nat) :
    stable c r b now =
      decide (c.wMs <
        (now % 2 ^ c.timeWidth + 2 ^ c.timeWidth
          - (if b = r.rawLevel then r.stableSince else now % 2 ^ c.timeWidth) % 2 ^ c.timeWidth)
          % 2 ^ c.timeWidth) := by
  rw [Bool.eq_iff_iff, stable_iff, age_eq]
  simp [sinceAfter, changed, narrow]

@[simp] theorem advance_true (m : ModeId) : advance m true = nextMode m := rfl

@[simp] theorem advance_false (m : ModeId) : advance m false = m := rfl

/-- R90: the transition adds one to the code, modulo four. -/
theorem nextMode_toNat (m : ModeId) : (nextMode m).toBits.toNat = (m.toBits.toNat + 1) % 4 := by
  cases m <;> rfl

/-- No mode is its own successor. -/
theorem nextMode_ne (m : ModeId) : nextMode m ≠ m := by
  cases m <;> decide

/-! The fields that the two stages of a TICK leave, and its events, in terms of the state before (R100). -/

section TickFields

variable (c : Config) (r : Regs) (b : Bool) (now : Nat)

theorem tickRegs_rawLevel : (tickRegs (detect c r b now)).rawLevel = b := rfl

theorem tickRegs_stableSince :
    (tickRegs (detect c r b now)).stableSince =
      if b = r.rawLevel then r.stableSince else now % 2 ^ c.timeWidth := by
  simp [tickRegs, sinceAfter, changed, narrow]

theorem tickRegs_pressLatched :
    (tickRegs (detect c r b now)).pressLatched = if stable c r b now then b else r.pressLatched := rfl

theorem tickRegs_confirmedLevel :
    (tickRegs (detect c r b now)).confirmedLevel = if stable c r b now then b else r.confirmedLevel := rfl

theorem tickRegs_mode :
    (tickRegs (detect c r b now)).mode =
      if stable c r b now && b && !r.pressLatched then nextMode r.mode else r.mode := rfl

theorem tickOutputs_pressEvt :
    (tickOutputs (detect c r b now)).pressEvt = (stable c r b now && b && !r.pressLatched) := by
  rw [tickOutputs, detect, pressEvent]

theorem tickOutputs_releaseEvt :
    (tickOutputs (detect c r b now)).releaseEvt = (stable c r b now && !b && r.pressLatched) := by
  rw [tickOutputs, detect, releaseEvent]

end TickFields

/-- The registers an operation leaves; it is a function of the parameters and the registers alone (R70, R103, R140). -/
def regsAfter (c : Config) (r : Regs) : Instr → Regs
  | .reset => Regs.afterReset
  | .tick b now => tickRegs (detect c r b now)
  | .hold => r

/-- The outputs an operation drives. -/
def outAfter (c : Config) (r : Regs) : Instr → Outputs
  | .reset => Outputs.afterReset
  | .tick b now => tickOutputs (detect c r b now)
  | .hold => quietOutputs r

/-- Everything an operation can do: it lands its registers and outputs and leaves the rest of the state (R8, R43). -/
theorem exec_eq_commit (i : Instr) (s : State) :
    exec i s = .next (s.commit (regsAfter s.config s.regs i) (outAfter s.config s.regs i)) := by
  cases i <;> rfl

/-- A sequence of operations, unfolded by its first one. -/
theorem runOps_cons (i : Instr) (is : List Instr) (s : State) :
    runOps (i :: is) s =
      runOps is (s.commit (regsAfter s.config s.regs i) (outAfter s.config s.regs i)) := by
  simp [runOps, exec_eq_commit]

/-- The outputs of a sequence of operations, unfolded by its first one. -/
theorem outputTrace_cons (i : Instr) (is : List Instr) (s : State) :
    outputTrace (i :: is) s = (i, outAfter s.config s.regs i) ::
      outputTrace is (s.commit (regsAfter s.config s.regs i) (outAfter s.config s.regs i)) := by
  simp [outputTrace, exec_eq_commit]

/-- TICKs leave the configuration (R29). -/
theorem ticked_config (s : State) (b : Nat → Bool) (t : Nat → Nat) (k : Nat) :
    (ticked s b t k).config = s.config := by
  induction k with
  | zero => rfl
  | succ k ih => simp only [ticked, exec_eq_commit, nextOr, State.commit_config, ih]

/-- TICK `k` takes the state before it to the state before TICK `k + 1`. -/
theorem ticked_succ (s : State) (b : Nat → Bool) (t : Nat → Nat) (k : Nat) :
    ticked s b t (k + 1) = (ticked s b t k).commit
      (tickRegs (detect s.config (ticked s b t k).regs (b k) (t k)))
      (tickOutputs (detect s.config (ticked s b t k).regs (b k) (t k))) := by
  simp only [ticked, exec_eq_commit, nextOr, ticked_config, regsAfter, outAfter]

/-- When TICK `k` raises a press, in terms of the state before it (R73). -/
theorem pressAt_iff (s : State) (b : Nat → Bool) (t : Nat → Nat) (k : Nat) :
    pressAt s b t k ↔ stable s.config (ticked s b t k).regs (b k) (t k) = true ∧ b k = true ∧
      (ticked s b t k).regs.pressLatched = false := by
  rw [pressAt, ticked_succ]
  simp [tickOutputs_pressEvt, and_assoc]

/-- A monotone time base is monotone between any two TICKs of the range. -/
theorem monotoneFromTo_le {tW : Nat} {t : Nat → Nat} {j m : Nat} (h : monotoneFromTo tW t j m) {i k : Nat} (hi : j ≤ i)
    (hik : i ≤ k) (hk : k ≤ m) : t i ≤ t k := by
  induction k, hik using Nat.le_induction with
  | base => rfl
  | succ k hle ih => exact le_trans (ih (by omega)) (h.1 k (by omega) (by omega))

end Sys2Proof.Machine
end

