-- ==== Sys2Proof/Laws/PerInstr.lean ====
section
/-! SUPPORT. Per-operation facts of syntax: the canonical word of each operation lies in its row of
spec/opcode_table.json (30_encoding.md R54, R58) and the operation is well formed at the reference width when its time fits it
(R55, R56). -/

namespace Sys2Proof.Laws.TableRow

/-- An operation is well formed at the reference width exactly when its time, if it has one, fits 32 bits, and its
canonical word is one of the words of the row that bears its mnemonic. -/
def Statement (i : Instr) : Prop :=
  (i.wf 32 = true ↔ ∀ sample now, i = .tick sample now → now < 2 ^ 32) ∧ ∃ r, r ∈ opcodeTable ∧ r.mnemonic = i.mnemonic ∧ r.covers (encode i) = true

theorem reset : Statement .reset :=
  ⟨by simp [Instr.wf], ⟨"RESET", 0x400000000, 0x400000000⟩, by decide⟩

theorem tick (sample : Bool) (now : Nat) : Statement (.tick sample now) := by
  refine ⟨by simp [Instr.wf], ⟨"TICK", 0x200000000, 0x600000000⟩, by decide, rfl, ?_⟩
  have h : (0x600000000 : InWord) = 0b11#2 ++ 0#1 ++ 0#32 := by decide
  have k : (0x200000000 : InWord) = 0b01#2 ++ 0#1 ++ 0#32 := by decide
  have e : encode (.tick sample now) = 0b01#2 ++ BitVec.ofBool (!sample) ++ BitVec.ofNat 32 now := rfl
  rw [OpcodeRow.covers, beq_iff_eq, e, h, k, BitVec.and_append, BitVec.and_append]
  simp

theorem hold : Statement .hold :=
  ⟨by simp [Instr.wf], ⟨"HOLD", 0, 0x600000000⟩, by decide⟩

end Sys2Proof.Laws.TableRow
end

