-- ==== Sys2Proof/Tests/Slice0.lean ====
section
/-! SUPPORT. Tests against the tables of 95_test_vectors.md and the words of 30_encoding.md, the smoke tests of what is
ill formed, and for each obligation with hypotheses the witnesses that meet them. -/

namespace Sys2Proof.Tests

open Sys2Proof Sys2Proof.Machine

/-- A small state: the registers as 95_test_vectors.md writes them, the window at the
reference width, and outputs of no interest. -/
def at_ (raw : Bool) (since : Nat) (conf latch : Bool) (mode : ModeId) (w : Nat) : State :=
  { State.reset with regs := ⟨raw, since, conf, latch, mode⟩, config := { Config.reference with wMs := w } }

/-! ## What is ill formed -/

theorem test_wordFits_refuses_36_bits : wordFits (2 ^ 35) = false ∧ wordFits (2 ^ 35 - 1) = true := by decide

theorem test_stimulus_tick_refuses_late_time :
    (StimLine.tick true (2 ^ 32)).wf = false ∧ (StimLine.tick true (2 ^ 32 - 1)).wf = true := by decide

theorem test_stimulus_ticks_refuses_late_time :
    (StimLine.ticks false (2 ^ 32) 10 3).wf = false ∧ (StimLine.ticks false 0 10 3).wf = true := by decide

theorem test_tick_refuses_time_past_the_width :
    (Instr.tick true (2 ^ 32)).wf 32 = false ∧ (Instr.tick true (2 ^ 32 - 1)).wf 32 = true := by decide

theorem test_config_refuses_window_past_the_width :
    ({ timeWidth := 5, wMs := 32, pauseMs := 1000 } : Config).wf = false ∧
    ({ timeWidth := 5, wMs := 31, pauseMs := 1000 } : Config).wf = true := by decide

/-- RESET and HOLD have no operands: there is no ill-formed one to refuse (R55, R56). -/
theorem test_reset_and_hold_are_well_formed : Instr.reset.wf 32 = true ∧ Instr.hold.wf 32 = true := by decide

/-! ## Words (30_encoding.md R50, R54, R58; each written out from the layout `{rst, tick, btn_n, now}`) -/

theorem test_decode_reset : decode 0b10000000000000000000000000000000000#35 = .reset := by decide

/-- `rst` = 0, `tick` = 1, `btn_n` = 0, `now` = 0b10000011011 = 1051. -/
theorem test_decode_tick_pressed : decode 0b01000000000000000000000010000011011#35 = .tick true 1051 := by decide

/-- `rst` = 0, `tick` = 1, `btn_n` = 1, `now` = 0b1100100 = 100. -/
theorem test_decode_tick_released : decode 0b01100000000000000000000000001100100#35 = .tick false 100 := by decide

theorem test_decode_hold : decode 0b00111111111111111111111111111111111#35 = .hold := by decide

/-- R122 (a): `rst` and `tick` together. -/
theorem test_decode_reset_wins : decode 0b11000000000000000000000000000000000#35 = .reset := by decide

theorem test_decodeTableWord_first_words :
    decodeTableWord 40 0x400000000 = some .reset ∧ decodeTableWord 40 0x200000000 = some (.tick true 0) ∧
    decodeTableWord 40 0 = some .hold ∧ decodeTableWord 40 0x800000000 = none := by decide

theorem test_placed_word_runs_next :
    ∃ t, step (State.reset.withFetchWord 40 0x2000003E8) = .next t ∧ t.regs = ⟨true, 1000, false, false, .manual⟩ ∧
      t.edge = 1 := ⟨_, rfl, by decide, by decide⟩

/-- Another width: 5 bits of `now`, `{0, 1, 1, 10110}`, and the three bits above it for RESET. -/
theorem test_decode_at_another_width :
    decodeAt 5 0b01110110#8 = .tick false 22 ∧ decodeAt 5 0b11111111#8 = .reset ∧ decodeAt 5 0b00111111#8 = .hold ∧
    decodeNumber 5 0b01010110 = .tick true 22 := by decide

/-- The words of program P1's first lines (95_test_vectors.md section 3). -/
theorem test_stimulus_words :
    (StimLine.ticks false 0 10 3).words = [0x300000000, 0x30000000A, 0x300000014] ∧
    (StimLine.tick true 30).words = [0x20000001E] ∧ (StimLine.holds 2).words = [0, 0] := by decide

/-! ## TICK: the tables of 95_test_vectors.md sections 2.2 and 2.4 -/

/-- A row of section 2.2: the window, the detector before, the operation, the events, the detector after. -/
structure DetectorRow where
  w : Nat
  before : Bool × Nat × Bool × Bool
  sample : Bool
  now : Nat
  press : Bool
  release : Bool
  after : Bool × Nat × Bool × Bool

/-- Whether TICK does what the row says, from mode LogicGate. -/
def DetectorRow.holds (v : DetectorRow) : Bool :=
  let s := at_ v.before.1 v.before.2.1 v.before.2.2.1 v.before.2.2.2 .logicGate v.w
  let t := nextOr s (exec (.tick v.sample v.now) s)
  (t.regs.rawLevel, t.regs.stableSince, t.regs.confirmedLevel, t.regs.pressLatched) == v.after &&
    t.out.pressEvt == v.press && t.out.releaseEvt == v.release &&
    t.regs.mode == (if v.press then .adc else .logicGate)

/-- V1 to V13. -/
def pressAndReleaseRows : List DetectorRow :=
  [ ⟨50, (false, 0, false, false), true, 1000, false, false, (true, 1000, false, false)⟩,
    ⟨50, (true, 1000, false, false), true, 1050, false, false, (true, 1000, false, false)⟩,
    ⟨50, (true, 1000, false, false), true, 1051, true, false, (true, 1000, true, true)⟩,
    ⟨50, (true, 1000, true, true), true, 1200, false, false, (true, 1000, true, true)⟩,
    ⟨50, (true, 1000, true, true), false, 1300, false, false, (false, 1300, true, true)⟩,
    ⟨50, (false, 1300, true, true), false, 1350, false, false, (false, 1300, true, true)⟩,
    ⟨50, (false, 1300, true, true), false, 1351, false, true, (false, 1300, false, false)⟩,
    ⟨50, (false, 1300, false, false), false, 2000, false, false, (false, 1300, false, false)⟩,
    ⟨50, (true, 1000, true, true), false, 1100, false, false, (false, 1100, true, true)⟩,
    ⟨50, (false, 1100, true, true), true, 1110, false, false, (true, 1110, true, true)⟩,
    ⟨50, (true, 1110, true, true), true, 1200, false, false, (true, 1110, true, true)⟩,
    ⟨50, (true, 1000, false, false), false, 1045, false, false, (false, 1045, false, false)⟩,
    ⟨50, (false, 1045, false, false), false, 1100, false, false, (false, 1045, false, false)⟩ ]

/-- V14 to V25. -/
def windowAndWrapRows : List DetectorRow :=
  [ ⟨0, (true, 1000, false, false), true, 1000, false, false, (true, 1000, false, false)⟩,
    ⟨0, (true, 1000, false, false), true, 1001, true, false, (true, 1000, true, true)⟩,
    ⟨50, (true, 4294967290, false, false), true, 5, false, false, (true, 4294967290, false, false)⟩,
    ⟨50, (true, 4294967290, false, false), true, 45, true, false, (true, 4294967290, true, true)⟩,
    ⟨50, (true, 1000, false, false), true, 900, true, false, (true, 1000, true, true)⟩,
    ⟨50, (false, 0, false, false), false, 10, false, false, (false, 0, false, false)⟩,
    ⟨50, (false, 0, false, false), false, 100, false, false, (false, 0, false, false)⟩,
    ⟨50, (false, 0, false, false), true, 5000, false, false, (true, 5000, false, false)⟩,
    ⟨50, (true, 1000, false, false), true, 2010, true, false, (true, 1000, true, true)⟩,
    ⟨50, (true, 1000, true, true), true, 2500, false, false, (true, 1000, true, true)⟩,
    ⟨50, (false, 1300, true, true), true, 1320, false, false, (true, 1320, true, true)⟩,
    ⟨50, (true, 1, false, false), true, 0, true, false, (true, 1, true, true)⟩ ]

theorem test_tick_detector_vectors :
    pressAndReleaseRows.all DetectorRow.holds = true ∧ windowAndWrapRows.all DetectorRow.holds = true := by decide

/-- The registers and the output word that an operation leaves. -/
def result (i : Instr) (s : State) : Regs × OutWord :=
  ((nextOr s (exec i s)).regs, (nextOr s (exec i s)).out.toWord)

/-- T1 to T4. -/
theorem test_tick_output_words :
    result (.tick true 1051) (at_ true 1000 false false .adc 50) = (⟨true, 1000, true, true, .manual⟩, 0x10D) ∧
    result (.tick false 100) (at_ false 0 false false .manual 50) = (⟨false, 0, false, false, .manual⟩, 0x008) ∧
    result (.tick true 100) (at_ true 30 true true .quiz 50) = (⟨true, 30, true, true, .quiz⟩, 0x158) ∧
    result (.tick false 320) (at_ false 260 true true .logicGate 50) =
      (⟨false, 260, false, false, .logicGate⟩, 0x0AA) := by decide

/-- R72, R79 with a time base of 8 bits: 4 is 20 after 240, not past a window of 20, and 5 is 21 after it. -/
theorem test_tick_wraps_at_the_width :
    let s : State := { at_ true 240 false false .manual 20 with
      config := { timeWidth := 8, wMs := 20, pauseMs := 1000 } }
    (nextOr s (exec (.tick true 4) s)).out.pressEvt = false ∧
    (nextOr s (exec (.tick true 5) s)).out.pressEvt = true ∧
    (nextOr s (exec (.tick false 261) s)).regs.stableSince = 5 := by decide

/-! ## HOLD, RESET and the Mode Controller: T5 to T8, M1 to M5 -/

theorem test_hold_keeps_registers :
    result .hold (at_ true 30 true true .quiz 50) = (⟨true, 30, true, true, .quiz⟩, 0x150) ∧
    result (decode 0x1FFFFFFFF) (at_ false 1300 false false .logicGate 50) =
      (⟨false, 1300, false, false, .logicGate⟩, 0x0A0) := by decide

theorem test_reset_writes_reset_values :
    result .reset (at_ true 7000 true true .adc 50) = (⟨false, 0, false, false, .manual⟩, 0) ∧
    result (decode 0x600000000) (at_ true 7000 true true .adc 50) = (⟨false, 0, false, false, .manual⟩, 0) := by decide

theorem test_reset_keeps_the_window :
    (nextOr State.reset (exec .reset (at_ true 7000 true true .adc 7))).config.wMs = 7 := by decide

theorem test_advance_table :
    advance .manual true = .quiz ∧ advance .quiz true = .logicGate ∧ advance .logicGate true = .adc ∧
    advance .adc true = .manual ∧ advance .logicGate false = .logicGate := by decide

theorem test_reset_state : State.reset.regs = ⟨false, 0, false, false, .manual⟩ ∧ State.reset.out.toWord = 0 := by decide

/-! ## Witnesses: states and operands that meet the hypotheses of each obligation -/

theorem witness_EveryWordDecodesToItsTableRow :
    (0x400000000#35)[34] = true ∧
    ((0x200000000#35)[34] = false ∧ (0x3FFFFFFFF#35)[33] = true) ∧
    ((0x1FFFFFFFF#35)[34] = false ∧ (0x1FFFFFFFF#35)[33] = false) := by decide

theorem witness_IgnoredFieldsNeverMatter :
    ((0x400000000#35)[34] = true ∧ (0x7FFFFFFFF#35)[34] = true) ∧
    ((0x000000000#35)[34] = false ∧ (0x000000000#35)[33] = false ∧
      (0x1FFFFFFFF#35)[34] = false ∧ (0x1FFFFFFFF#35)[33] = false) := by decide

/-- Both clauses, at the ends of their ranges: `2^35 - 1` in 35 bits, and `2^35` in 36. -/
theorem witness_PlacedWordRunsNext :
    (State.reset.config.timeWidth = 32 ∧ 35 ≤ 35 ∧ 2 ^ 35 - 1 < 2 ^ 35) ∧ (2 ^ 35 < 2 ^ 36 ∧ 2 ^ 35 ≤ 2 ^ 35) := by decide

theorem witness_StimulusLinesGiveTheirWords : (0 < 2 ^ 32) ∧ (2 ^ 32 - 1 < 2 ^ 32) := by decide

theorem witness_StepRunsTheDecodedOperation :
    (State.reset.present 0x200000000).stimulus = 0x200000000 :: [] ∧ State.reset.stimulus = [] := by decide

/-- The words of the three operations. -/
theorem witness_ResetNextState : (0x400000000#35)[34] = true := by decide

theorem witness_TickNextState : (0x200000000#35)[34] = false ∧ (0x200000000#35)[33] = true := by decide

theorem witness_HoldNextState : (0x000000000#35)[34] = false ∧ (0x000000000#35)[33] = false := by decide

/-- A press that moves the mode, a RESET that does, a release, a HOLD. -/
theorem witness_ModeChangesOnlyByPressOrReset :
    (∃ t, exec (.tick true 1051) (at_ true 1000 false false .adc 50) = .next t ∧ t.regs.mode ≠ .adc) ∧
    (∃ t, exec .reset (at_ true 1000 false false .adc 50) = .next t ∧ t.regs.mode ≠ .adc) ∧
    (∃ t, exec (.tick false 1351) (at_ false 1300 true true .adc 50) = .next t ∧ t.out.releaseEvt = true) ∧
    (∃ t, exec .hold (at_ false 1300 true true .adc 50) = .next t) :=
  ⟨⟨_, rfl, by decide⟩, ⟨_, rfl, by decide⟩, ⟨_, rfl, by decide⟩, ⟨_, rfl⟩⟩

/-- Serves ModeEntryMarksTransitions, SimultaneousEventsAreSettled and DutiesComeInOrder too: each operation answers. -/
theorem witness_OutputsShowTheStateAfter :
    (∃ t, exec (.tick true 1051) (at_ true 1000 false false .adc 50) = .next t ∧ t.out.modeEntry = true) ∧
    (∃ t, exec .hold State.reset = .next t) ∧ (∃ t, exec .reset State.reset = .next t) ∧
    (∀ b now, Instr.hold ≠ .tick b now) :=
  ⟨⟨_, rfl, by decide⟩, ⟨_, rfl⟩, ⟨_, rfl⟩, by intro b now h; cases h⟩

theorem witness_ModeEntryMarksTransitions :
    (∃ t, exec (.tick true 1051) (at_ true 1000 false false .adc 50) = .next t) ∧
    (∃ t, exec .hold State.reset = .next t) ∧ (∃ t, exec .reset State.reset = .next t) :=
  ⟨⟨_, rfl⟩, ⟨_, rfl⟩, ⟨_, rfl⟩⟩

theorem witness_SimultaneousEventsAreSettled :
    ((0x600000000#35)[34] = true ∧ (0x600000000#35)[33] = true) ∧
    (∃ t, exec (.tick false 1351) (at_ false 1300 true true .adc 50) = .next t) := ⟨by decide, ⟨_, rfl⟩⟩

theorem witness_FlagsChangeOnlyOnStableTickOrReset :
    (∃ t, exec (.tick true 1051) (at_ true 1000 false false .adc 50) = .next t ∧ t.regs.pressLatched ≠ false ∧
      Instr.tick true 1051 ≠ .reset) ∧
    (∃ t, exec .reset (at_ true 1000 true true .adc 50) = .next t) :=
  ⟨⟨_, rfl, by decide, by decide⟩, ⟨_, rfl⟩⟩

theorem witness_ReleaseEventIsTheLatchClearing :
    (at_ false 1300 true true .adc 50).regs.pressLatched = (at_ false 1300 true true .adc 50).regs.confirmedLevel ∧
    ∃ t, exec (.tick false 1351) (at_ false 1300 true true .adc 50) = .next t := ⟨by decide, ⟨_, rfl⟩⟩

theorem witness_QuietTickChangesNoRegister :
    (at_ true 30 true true .quiz 50).regs.pressLatched = (at_ true 30 true true .quiz 50).regs.rawLevel ∧
    (at_ true 30 true true .quiz 50).regs.confirmedLevel = (at_ true 30 true true .quiz 50).regs.rawLevel := by decide

/-- The clauses: equal times, a gap of `2^32 - 1`, a gap of `2^32`, and a time base one behind. -/
theorem witness_PressDecidedByModularElapsedTime :
    ((at_ true 1000 false false .quiz 50).regs.rawLevel = true ∧
      (at_ true 1000 false false .quiz 50).regs.pressLatched = false ∧
      (at_ true 1000 false false .quiz 50).regs.stableSince = 1000 % 2 ^ 32 ∧
      2 ^ 32 = 2 ^ (at_ true 1000 false false .quiz 50).config.timeWidth) ∧
    1000 ≤ 1000 ∧ (1000 ≤ 1000 + (2 ^ 32 - 1) ∧ 1000 + (2 ^ 32 - 1) - 1000 < 2 ^ 32) ∧ 1000 ≤ 1000 + 2 ^ 32 ∧
    (999 < 1000 ∧ 1000 - 999 < 2 ^ 32) := by decide

theorem witness_NoStepChangesTheConfiguration : ∃ t, step (State.reset.present 0) = .next t := ⟨_, rfl⟩

theorem witness_DutiesComeInOrder :
    (∃ t, exec (.tick true 1051) (at_ true 1000 false false .adc 50) = .next t ∧ t.out.pressEvt = true) ∧
    (∃ t, exec .hold State.reset = .next t) ∧ (∃ t, exec .reset State.reset = .next t) :=
  ⟨⟨_, rfl, by decide⟩, ⟨_, rfl⟩, ⟨_, rfl⟩⟩

theorem witness_ConsistencyKeptByEveryStep :
    Consistent (State.reset.present 0x200000000) ∧ ∃ t, step (State.reset.present 0x200000000) = .next t :=
  ⟨⟨rfl, rfl, rfl, rfl, rfl, by decide, by decide⟩, ⟨_, rfl⟩⟩

theorem witness_ResetGivesConsistency : ∃ t, exec .reset (at_ true 7000 true false .adc 50) = .next t := ⟨_, rfl⟩

theorem witness_DecodeEncodeRoundTrip :
    (Instr.tick true (2 ^ 32 - 1)).wf 32 = true ∧ (Instr.tick false 31).wf 5 = true := by decide

theorem witness_WordLayoutFollowsTheTimeWidth :
    ((0b10000000#8 : InWordAt 5).getLsbD (5 + 2) = true) ∧
    ((0b01000000#8 : InWordAt 5).getLsbD (5 + 2) = false ∧ (0b01000000#8 : InWordAt 5).getLsbD (5 + 1) = true) ∧
    ((0b00111111#8 : InWordAt 5).getLsbD (5 + 2) = false ∧ (0b00111111#8 : InWordAt 5).getLsbD (5 + 1) = false) := by
  decide

theorem witness_RegistersKeepTheirWidth :
    Fits (State.reset.present 0x200000000) ∧ ∃ t, step (State.reset.present 0x200000000) = .next t :=
  ⟨⟨by decide, by decide⟩, ⟨_, rfl⟩⟩

theorem witness_ResetFitsTheWidth :
    (at_ true 7000 true false .adc 50).config.wf = true ∧
    ∃ t, exec .reset (at_ true 7000 true false .adc 50) = .next t := ⟨by decide, ⟨_, rfl⟩⟩

theorem witness_EventsAreTheLatchMoving : isRunning (.tick true 1051) = true ∧ isRunning .hold = true := by decide

/-- Two states that differ in mode, outputs and stimulus. -/
theorem witness_ModeNeverAffectsTheDetector :
    (at_ true 1000 false false .adc 50).regs.rawLevel = (at_ true 1000 false false .quiz 50).regs.rawLevel ∧
    (at_ true 1000 false false .adc 50).regs.stableSince = (at_ true 1000 false false .quiz 50).regs.stableSince ∧
    (at_ true 1000 false false .adc 50).regs.confirmedLevel =
      (at_ true 1000 false false .quiz 50).regs.confirmedLevel ∧
    (at_ true 1000 false false .adc 50).regs.pressLatched = (at_ true 1000 false false .quiz 50).regs.pressLatched ∧
    (at_ true 1000 false false .adc 50).config.wMs = (at_ true 1000 false false .quiz 50).config.wMs ∧
    (at_ true 1000 false false .adc 50).config.timeWidth = (at_ true 1000 false false .quiz 50).config.timeWidth := by
  decide

/-- For PressAndReleaseAlternate and ModeCountsPressesModuloFour: a sequence with a press in it. -/
theorem witness_running_sequence :
    (∀ i ∈ [Instr.tick true 1000, .hold, .tick true 1051], isRunning i = true) ∧
    (outputTrace [.tick true 1000, .hold, .tick true 1051] State.reset).countP (fun p => p.2.pressEvt) = 1 := by decide

/-- The samples of a button pressed from TICK 0 on. -/
def pressed (_ : Nat) : Bool := true

/-- TICK 0 at 1000 ms, every later one at `late`. -/
def timesUpTo (late : Nat) (k : Nat) : Nat := if k = 0 then 1000 else late

theorem witness_monotone (late : Nat) (h : 1000 ≤ late) (hl : late < 2 ^ 32) :
    monotoneFromTo 32 (timesUpTo late) 0 1 := by
  refine ⟨fun i _ hi => ?_, fun i _ _ => ?_⟩
  · obtain rfl : i = 0 := by omega
    exact h
  · unfold timesUpTo
    split <;> omega

/-- For PressNeedsALevelHeldPastTheWindow and PressIffFirstTickPastTheWindow: the first age past the window. -/
theorem witness_PressNeedsALevelHeldPastTheWindow :
    ∃ s, exec .reset State.reset = .next s ∧ monotoneFromTo 32 (timesUpTo 1051) 0 1 ∧
      pressAt s pressed (timesUpTo 1051) 1 := ⟨_, rfl, witness_monotone _ (by decide) (by decide), by unfold pressAt; decide⟩

/-- For HeldPressReportedExactlyOnce: one tick reported, one not. -/
theorem witness_HeldPressReportedExactlyOnce :
    State.reset.regs.pressLatched = false ∧ State.reset.regs.rawLevel = false ∧ (∀ i, i ≤ 1 → pressed i = true) ∧
    monotoneFromTo 32 (timesUpTo 1051) 0 1 ∧ pressAt State.reset pressed (timesUpTo 1051) 1 ∧
    ¬ pressAt State.reset pressed (timesUpTo 1051) 0 :=
  ⟨rfl, rfl, fun _ _ => rfl, witness_monotone _ (by decide) (by decide), by unfold pressAt; decide, by unfold pressAt; decide⟩

/-- A press whose last TICK is exactly the window after its first, then released. -/
theorem witness_ShortPressIsRejected :
    State.reset.regs.rawLevel = false ∧ (∀ i, i ≤ 1 → decide (i ≤ 1) = true) ∧ decide (1 + 1 ≤ 1) = false ∧
    monotoneFromTo 32 (timesUpTo 1050) 0 1 ∧ ¬ longerThanWindow State.reset.config.wMs (timesUpTo 1050) 0 1 :=
  ⟨rfl, fun _ h => decide_eq_true h, by decide, witness_monotone _ (by decide) (by decide), by unfold longerThanWindow; decide⟩

theorem witness_PressIffFirstTickPastTheWindow :
    ∃ s, exec .reset State.reset = .next s ∧ monotoneFromTo 32 (timesUpTo 1050) 0 1 :=
  ⟨_, rfl, witness_monotone _ (by decide) (by decide)⟩

theorem witness_ConfirmedLevelNeedsAConstantLevel :
    ∃ s, exec .reset State.reset = .next s ∧ monotoneFromTo 32 (timesUpTo 1051) 0 1 ∧
      (ticked s pressed (timesUpTo 1051) (1 + 1)).regs.confirmedLevel ≠
        (ticked s pressed (timesUpTo 1051) 1).regs.confirmedLevel :=
  ⟨_, rfl, witness_monotone _ (by decide) (by decide), by decide⟩

/-- TICKs 30 ms apart with the window of 50 ms: the event comes at TICK 2. -/
theorem witness_EventLatencyIsExact :
    0 < 30 ∧ 2 = State.reset.config.wMs / 30 + 1 ∧ 1000 + 2 * 30 < 2 ^ State.reset.config.timeWidth ∧
    (∀ i, i ≤ 2 → (fun i : Nat => 1000 + i * 30) i = 1000 + i * 30) ∧
    (∀ i, i ≤ 2 → pressed i = true) ∧ State.reset.regs.pressLatched = false ∧ State.reset.regs.rawLevel = false :=
  ⟨by decide, by decide, by decide, fun _ _ => rfl, fun _ _ => rfl, rfl, rfl⟩

theorem witness_ButtonHeldThroughResetIsReported :
    ∃ s, exec .reset State.reset = .next s ∧ (∀ i, i ≤ 1 → pressed i = true) ∧
      monotoneFromTo 32 (timesUpTo 1051) 0 1 ∧ longerThanWindow s.config.wMs (timesUpTo 1051) 0 1 ∧
      ∀ i, i < 1 → ¬ longerThanWindow s.config.wMs (timesUpTo 1051) 0 i :=
  ⟨_, rfl, fun _ _ => rfl, witness_monotone _ (by decide) (by decide), by unfold longerThanWindow; decide, fun i hi => by
    obtain rfl : i = 0 := by omega
    unfold longerThanWindow
    decide⟩

/-- The last TICK before the pause exactly the window after the change, the next one exactly the pause later. -/
theorem witness_PauseConfirmsAHeldPressAtOnce :
    (at_ true 1000 false false .quiz 50).regs.rawLevel = true ∧
    (at_ true 1000 false false .quiz 50).regs.pressLatched = false ∧
    (at_ true 1000 false false .quiz 50).config.wMs < (at_ true 1000 false false .quiz 50).config.pauseMs ∧
    (at_ true 1000 false false .quiz 50).regs.stableSince ≤ 1050 ∧
    1050 - (at_ true 1000 false false .quiz 50).regs.stableSince ≤ (at_ true 1000 false false .quiz 50).config.wMs ∧
    1050 + (at_ true 1000 false false .quiz 50).config.pauseMs ≤ 2050 ∧
    2050 < 2 ^ (at_ true 1000 false false .quiz 50).config.timeWidth := by decide

/-- Case (d), pressed and latched, and case (a), released and clear. -/
theorem witness_PauseHidesAChangeAndBack :
    ((at_ true 1000 true true .quiz 50).regs.pressLatched = (at_ true 1000 true true .quiz 50).regs.rawLevel ∧
      (at_ true 1000 true true .quiz 50).regs.confirmedLevel = (at_ true 1000 true true .quiz 50).regs.rawLevel) ∧
    ((at_ false 70 false false .quiz 50).regs.pressLatched = (at_ false 70 false false .quiz 50).regs.rawLevel ∧
      (at_ false 70 false false .quiz 50).regs.confirmedLevel = (at_ false 70 false false .quiz 50).regs.rawLevel) := by
  decide

end Sys2Proof.Tests
end

