-- ==== Sys2Proof/Proofs/State.lean ====
section
/-! The flags of the state (10_state.md R28): which operation writes them, and when. -/

namespace Sys2Proof.Machine

/-- The inversion of an operation at the registers. -/
theorem regs_eq_of_exec {i : Instr} {s t : State} (h : exec i s = .next t) : t.regs = regsAfter s.config s.regs i := by
  rw [exec_eq_commit, Host.Outcome.next.injEq] at h
  rw [← h, State.commit_regs]

/-- R72 with the `stableSince` that the TICK itself leaves. -/
theorem stable_iff_elapsed_since_tickRegs (c : Config) (r : Regs) (b : Bool) (now : Nat) :
    stable c r b now = true ↔
      c.wMs < (now % 2 ^ c.timeWidth + 2 ^ c.timeWidth
        - (tickRegs (detect c r b now)).stableSince % 2 ^ c.timeWidth) % 2 ^ c.timeWidth := by
  rw [stable_iff, age_eq, tickRegs, detect_stableSince]

/-- R74 and R75: a TICK that changes one of the flags is stable. -/
theorem stable_of_flag_ne {c : Config} {r : Regs} {b : Bool} {now : Nat}
    (h : (tickRegs (detect c r b now)).pressLatched ≠ r.pressLatched ∨
      (tickRegs (detect c r b now)).confirmedLevel ≠ r.confirmedLevel) : stable c r b now = true := by
  by_contra hs
  simp [tickRegs_pressLatched, tickRegs_confirmedLevel, hs] at h

/-- Settles O20: HOLD keeps both flags, and a TICK that is not stable keeps them too. -/
theorem flagsChangeOnlyOnStableTickOrReset : Obligations.FlagsChangeOnlyOnStableTickOrReset := by
  intro i s t hexec
  rw [regs_eq_of_exec hexec]
  cases i with
  | reset => exact ⟨fun _ => ⟨rfl, rfl⟩, fun _ hne => absurd rfl hne⟩
  | hold => exact ⟨nofun, fun hchanged _ => by simp [regsAfter] at hchanged⟩
  | tick b now =>
    refine ⟨nofun, fun hchanged _ => ?_⟩
    have hstable := stable_of_flag_ne hchanged
    exact ⟨b, now, rfl, (stable_iff_elapsed_since_tickRegs ..).mp hstable,
      by simp [regsAfter, tickRegs_pressLatched, hstable], by simp [regsAfter, tickRegs_confirmedLevel, hstable]⟩

end Sys2Proof.Machine
end

/-! The input word and the mode codes (30_encoding.md R53 to R56): the row and the operation of every word, the fields
that an operation ignores, and the four codes. -/

namespace Sys2Proof

/-! ### The operation of a word, from its two control bits (R54, R55) -/

section DecodeByLines

variable {w : InWord}

theorem decode_of_rst (hrst : w[34] = true) : decode w = .reset := by
  simp [decode_eq, hrst]

theorem decode_of_tick (hrst : w[34] = false) (htick : w[33] = true) :
    decode w = .tick (!w[32]) (w.toNat % 2 ^ 32) := by
  simp [decode_eq, hrst, htick]

theorem decode_of_no_line (hrst : w[34] = false) (htick : w[33] = false) : decode w = .hold := by
  simp [decode_eq, hrst, htick]

end DecodeByLines

/-! ### The opcode table (R54) -/

/-- The rows of the table split the words as the decoder does. -/
theorem OpcodeRow.covers_iff_mnemonic_decode {r : OpcodeRow} (hr : r ∈ opcodeTable) (w : InWord) :
    r.covers w = true ↔ (decode w).mnemonic = r.mnemonic := by
  simp only [opcodeTable, List.mem_cons, List.not_mem_nil, or_false] at hr
  obtain rfl | rfl | rfl := hr
  all_goals
    simp only [covers_iff, BitVec.ofNat_eq_ofNat, mask_rst, mask_rst_tick, decode_eq]
    cases w[34] <;> cases w[33] <;> simp [Instr.mnemonic]

/-- No two rows bear the same mnemonic. -/
theorem opcodeTable_mnemonic_injective :
    ∀ r ∈ opcodeTable, ∀ r' ∈ opcodeTable, r'.mnemonic = r.mnemonic → r' = r := by decide

/-- Every operation has a row of the table. -/
theorem exists_row_of_instr (i : Instr) : ∃ r ∈ opcodeTable, i.mnemonic = r.mnemonic := by
  cases i <;> simp [opcodeTable, Instr.mnemonic]

/-- Settles O3: the row that bears the decoded operation's mnemonic covers the word, and a row that covers the word
bears that mnemonic, so it is the same row. -/
theorem everyWordDecodesToItsTableRow : Obligations.EveryWordDecodesToItsTableRow := by
  intro w
  refine ⟨?_, decode_of_rst, decode_of_tick, decode_of_no_line⟩
  obtain ⟨r, hr, hname⟩ := exists_row_of_instr (decode w)
  refine ⟨r, hr, (OpcodeRow.covers_iff_mnemonic_decode hr w).mpr hname, hname, fun r' hr' hcovers => ?_⟩
  have hname' : (decode w).mnemonic = r'.mnemonic := (OpcodeRow.covers_iff_mnemonic_decode hr' w).mp hcovers
  exact opcodeTable_mnemonic_injective r hr r' hr' (hname'.symm.trans hname)

/-! ### Ignored fields (R56) -/

/-- Settles O4: every operation lands its writes, and words with the control bits of RESET, or of HOLD, decode to one
operation without operands. -/
theorem ignoredFieldsNeverMatter : Obligations.IgnoredFieldsNeverMatter := by
  intro s w v
  refine ⟨⟨_, Machine.exec_eq_commit (decode w) s⟩, fun hw hv => ?_, fun hw hwt hv hvt => ?_⟩
  · rw [decode_of_rst hw, decode_of_rst hv]
  · rw [decode_of_no_line hw hwt, decode_of_no_line hv hvt]

/-! ### The codes of the modes (R53) -/

@[simp] theorem ModeId.ofBits_toBits (m : ModeId) : ModeId.ofBits m.toBits = m := by
  cases m <;> rfl

@[simp] theorem ModeId.toBits_ofBits (c : BitVec 2) : (ModeId.ofBits c).toBits = c := by
  decide +revert

/-- Settles O8: the codes by evaluation, and the two round trips. -/
theorem modeCodesAreTheFourCodes : Obligations.ModeCodesAreTheFourCodes :=
  ⟨rfl, rfl, rfl, rfl, ModeId.ofBits_toBits, ModeId.toBits_ofBits⟩

end Sys2Proof

/-! The edge detector (40_edge_detector.md R70 to R77): the state and the outputs of a TICK in the words of its
pseudocode, and what the detector reads. -/

namespace Sys2Proof.Machine

/-! ### The next state of a TICK (R77, R100) -/

section NextState

variable (c : Config) (r : Regs) (b : Bool) (now : Nat)

/-- R73: the event is the pseudocode's condition. -/
theorem detect_pressEvt :
    (detect c r b now).pressEvt = decide (stable c r b now = true ∧ b = true ∧ r.pressLatched = false) := by
  simp [detect, pressEvent, Bool.and_assoc]

/-- R76: the event is the pseudocode's condition. -/
theorem detect_releaseEvt :
    (detect c r b now).releaseEvt = decide (stable c r b now = true ∧ b = false ∧ r.pressLatched = true) := by
  simp [detect, releaseEvent, Bool.and_assoc]

/-- All five registers of a TICK (R71, R74, R75, R90). -/
theorem tickRegs_detect :
    tickRegs (detect c r b now) =
      { rawLevel := b
        stableSince := if b = r.rawLevel then r.stableSince else now % 2 ^ c.timeWidth
        confirmedLevel := if stable c r b now then b else r.confirmedLevel
        pressLatched := if stable c r b now then b else r.pressLatched
        mode := advance r.mode (detect c r b now).pressEvt } := by
  rw [← tickRegs_stableSince]
  rfl

/-- All seven outputs of a TICK (R100). -/
theorem tickOutputs_detect :
    tickOutputs (detect c r b now) =
      { pressEvt := (detect c r b now).pressEvt
        releaseEvt := (detect c r b now).releaseEvt
        modeEntry := (detect c r b now).pressEvt
        dispatchValid := true
        dispatchMode := advance r.mode (detect c r b now).pressEvt
        mode := advance r.mode (detect c r b now).pressEvt
        confirmedLevel := if stable c r b now then b else r.confirmedLevel } := rfl

end NextState

/-- Settles O14: the two control bits give the operation and its operands; the TICK's records are the pseudocode's once
the events are its conditions and the stability test its elapsed time. -/
theorem tickNextState : Obligations.TickNextState := by
  refine ⟨fun _ => decode_of_tick, fun sample now s => ?_⟩
  simp only [exec_eq_commit, regsAfter, outAfter, tickRegs_detect, tickOutputs_detect, detect_pressEvt,
    detect_releaseEvt, stable_eq_decide]
  rfl

/-! ### What the detector reads (R70) -/

/-- Two states that hold the same of what the detector reads: its four fields and the parameters `W_MS` and `T_W`. The
modes are free. -/
structure DetectorAgrees (s u : State) : Prop where
  rawLevel : s.regs.rawLevel = u.regs.rawLevel
  stableSince : s.regs.stableSince = u.regs.stableSince
  confirmedLevel : s.regs.confirmedLevel = u.regs.confirmedLevel
  pressLatched : s.regs.pressLatched = u.regs.pressLatched
  wMs : s.config.wMs = u.config.wMs
  timeWidth : s.config.timeWidth = u.config.timeWidth

namespace DetectorAgrees

variable {s u : State} (h : DetectorAgrees s u)
include h

/-- R72 reads nothing else. -/
theorem stable_eq (b : Bool) (now : Nat) :
    stable s.config s.regs b now = stable u.config u.regs b now := by
  simp only [stable_eq_decide, h.rawLevel, h.stableSince, h.wMs, h.timeWidth]

/-- R71, R74 and R75 read nothing else: an operation writes the same into the four fields. -/
theorem commit (i : Instr) :
    DetectorAgrees (s.commit (regsAfter s.config s.regs i) (outAfter s.config s.regs i))
      (u.commit (regsAfter u.config u.regs i) (outAfter u.config u.regs i)) := by
  cases i with
  | reset => exact ⟨rfl, rfl, rfl, rfl, h.wMs, h.timeWidth⟩
  | hold => exact ⟨h.rawLevel, h.stableSince, h.confirmedLevel, h.pressLatched, h.wMs, h.timeWidth⟩
  | tick b now =>
    refine ⟨rfl, ?_, ?_, ?_, h.wMs, h.timeWidth⟩
    · simp only [State.commit_regs, regsAfter, tickRegs_stableSince, h.rawLevel, h.stableSince, h.timeWidth]
    · simp only [State.commit_regs, regsAfter, tickRegs_confirmedLevel, h.stable_eq, h.confirmedLevel]
    · simp only [State.commit_regs, regsAfter, tickRegs_pressLatched, h.stable_eq, h.pressLatched]

/-- R73 and R76 read nothing else: an operation raises the same events. -/
theorem eventsOf_outAfter (i : Instr) :
    eventsOf (outAfter s.config s.regs i) = eventsOf (outAfter u.config u.regs i) := by
  cases i with
  | reset => rfl
  | hold => rfl
  | tick b now =>
    simp only [eventsOf, outAfter, tickOutputs_pressEvt, tickOutputs_releaseEvt, h.stable_eq, h.pressLatched]

end DetectorAgrees

/-- A sequence of operations keeps the agreement and raises the same events, one operation after the other. -/
theorem DetectorAgrees.runOps_outputTrace (is : List Instr) : ∀ {s u : State}, DetectorAgrees s u →
    ∃ s' u', runOps is s = .next s' ∧ runOps is u = .next u' ∧ DetectorAgrees s' u' ∧
      (outputTrace is s).map (fun p => eventsOf p.2) = (outputTrace is u).map (fun p => eventsOf p.2) := by
  induction is with
  | nil => exact fun h => ⟨_, _, rfl, rfl, h, rfl⟩
  | cons i is ih =>
    intro s u h
    obtain ⟨s', u', hs, hu, hagree, htrace⟩ := ih (h.commit i)
    refine ⟨s', u', by rwa [runOps_cons], by rwa [runOps_cons], hagree, ?_⟩
    rw [outputTrace_cons, outputTrace_cons, List.map_cons, List.map_cons, h.eventsOf_outAfter, htrace]

/-- Settles O30: the agreement on what the detector reads is kept by every operation. -/
theorem modeNeverAffectsTheDetector : Obligations.ModeNeverAffectsTheDetector := by
  intro is s u hraw hsince hconfirmed hlatched hwindow hwidth
  obtain ⟨s', u', hs, hu, hagree, htrace⟩ :=
    DetectorAgrees.runOps_outputTrace is ⟨hraw, hsince, hconfirmed, hlatched, hwindow, hwidth⟩
  exact ⟨s', u', hs, hu, hagree.rawLevel, hagree.stableSince, hagree.confirmedLevel, hagree.pressLatched, htrace⟩

end Sys2Proof.Machine

/-! The mode controller (41_mode_controller.md R90, R91, R93): which operation changes the mode, to what, and which
output tells it. -/

namespace Sys2Proof.Machine

/-- The inversion of an operation at the outputs. -/
theorem out_eq_of_exec {i : Instr} {s t : State} (h : exec i s = .next t) : t.out = outAfter s.config s.regs i := by
  rw [exec_eq_commit, Host.Outcome.next.injEq] at h
  rw [← h, State.commit_out]

/-- R90: the transition rule changes the mode exactly on a press, since no mode is its own successor. -/
theorem advance_ne_iff (m : ModeId) (p : Bool) : advance m p ≠ m ↔ p = true := by
  cases p with
  | false => simp
  | true => simp [nextMode_ne]

section TickMode

variable {c : Config} {r : Regs} {b : Bool} {now : Nat}

/-- R91: a TICK changes the mode exactly when it raises a press. -/
theorem tickRegs_mode_ne_iff :
    (tickRegs (detect c r b now)).mode ≠ r.mode ↔ (tickOutputs (detect c r b now)).pressEvt = true :=
  advance_ne_iff r.mode (detect c r b now).pressEvt

/-- R90: where a TICK raises a press, the mode goes one step along the cycle. -/
theorem tickRegs_mode_of_press (h : (tickOutputs (detect c r b now)).pressEvt = true) :
    (tickRegs (detect c r b now)).mode = nextMode r.mode := by
  rw [tickOutputs_pressEvt] at h
  rw [tickRegs_mode, if_pos h]

/-- R73 and R76: a press needs the sample pressed, a release needs it released. -/
theorem tickOutputs_not_press_of_release (h : (tickOutputs (detect c r b now)).releaseEvt = true) :
    ¬ (tickOutputs (detect c r b now)).pressEvt = true := by
  simp only [tickOutputs_releaseEvt, Bool.and_eq_true, Bool.not_eq_true'] at h
  obtain ⟨⟨-, hb⟩, -⟩ := h
  simp [tickOutputs_pressEvt, hb]

end TickMode

/-- Settles O16: HOLD keeps the registers, RESET goes to Manual and raises nothing, and a TICK changes the mode only on
a press, which a releasing TICK does not raise. -/
theorem modeChangesOnlyByPressOrReset : Obligations.ModeChangesOnlyByPressOrReset := by
  intro i s t hexec
  rw [regs_eq_of_exec hexec, out_eq_of_exec hexec]
  cases i with
  | reset => exact ⟨fun _ => .inl ⟨rfl, rfl⟩, nofun, nofun⟩
  | hold => exact ⟨fun hne => absurd rfl hne, fun _ => rfl, fun _ => rfl⟩
  | tick b now =>
    refine ⟨fun hne => .inr ?_, nofun, fun hrelease => ?_⟩
    · have hpress := tickRegs_mode_ne_iff.mp hne
      exact ⟨⟨b, now, rfl⟩, hpress, tickRegs_mode_of_press hpress⟩
    · by_contra hne
      exact tickOutputs_not_press_of_release hrelease (tickRegs_mode_ne_iff.mp hne)

/-- Settles O17: on a TICK the output is the press, which the mode's change is equivalent to; HOLD and RESET drive no
pulse. -/
theorem modeEntryMarksTransitions : Obligations.ModeEntryMarksTransitions := by
  refine ⟨fun b now s t hexec => ?_, fun s t hexec => ?_, fun s t hexec => ?_⟩
  · rw [regs_eq_of_exec hexec, out_eq_of_exec hexec]
    exact ⟨rfl, tickRegs_mode_ne_iff.symm⟩
  · rw [out_eq_of_exec hexec, outAfter, quietOutputs]
  · rw [out_eq_of_exec hexec, outAfter, Outputs.afterReset]

end Sys2Proof.Machine

/-! The tick sequencing (42_tick_sequencing.md R103, R104): what HOLD answers, and what the outputs of every operation
show. -/

namespace Sys2Proof.Machine

/-- R103: HOLD lands the registers unchanged and the outputs of a step that raises no pulse. -/
theorem exec_hold (s : State) : exec .hold s = .next { s with out := quietOutputs s.regs } :=
  exec_eq_commit .hold s

/-- Settles O15: the word has neither line set, and HOLD drives the levels of the registers it keeps. -/
theorem holdNextState : Obligations.HoldNextState :=
  ⟨fun _ => decode_of_no_line, exec_hold⟩

section OutputsAfter

variable (c : Config) (r : Regs) (i : Instr)

/-- R104: the output `mode` is the mode after the step. -/
theorem outAfter_mode : (outAfter c r i).mode = (regsAfter c r i).mode := by
  cases i <;> rfl

/-- R104: the output `confirmed_level` is the confirmed level after the step. -/
theorem outAfter_confirmedLevel : (outAfter c r i).confirmedLevel = (regsAfter c r i).confirmedLevel := by
  cases i <;> rfl

/-- R104: RESET and HOLD drive the levels alone, so their four pulses are 0. -/
theorem outAfter_of_not_tick (hi : ∀ b now, i ≠ .tick b now) : outAfter c r i = quietOutputs (regsAfter c r i) := by
  cases i with
  | reset => rfl
  | hold => rfl
  | tick b now => exact absurd rfl (hi b now)

end OutputsAfter

/-- Settles O18: the two levels are those of the registers that land with the outputs, and an operation other than TICK
drives the outputs of a step that raises no pulse. -/
theorem outputsShowTheStateAfter : Obligations.OutputsShowTheStateAfter := by
  intro i s t hexec
  rw [regs_eq_of_exec hexec, out_eq_of_exec hexec]
  refine ⟨outAfter_mode .., outAfter_confirmedLevel .., fun hi => ?_⟩
  rw [outAfter_of_not_tick _ _ _ hi]
  exact ⟨rfl, rfl, rfl, rfl⟩

end Sys2Proof.Machine

/-! The exceptions (60_exceptions.md R120, R122): the block has none, and events that meet on one edge are settled. -/

namespace Sys2Proof.Machine

/-- R120: an operation answers a next state, never a fault or a refusal. -/
theorem exists_exec_eq_next (i : Instr) (s : State) : ∃ t, exec i s = .next t :=
  ⟨_, exec_eq_commit i s⟩

/-- Settles O11: whichever operation the word decodes to, it completes. -/
theorem everyInputWordCompletes : Obligations.EveryInputWordCompletes :=
  ⟨fun w => exists_exec_eq_next (decode w), fun tW n => exists_exec_eq_next (decodeNumber tW n)⟩

/-- Settles O19: `rst` decides the word whatever `tick` is; on a TICK the mode controller drives `mode_entry` from the
press itself, and a release needs the sample that a press excludes. -/
theorem simultaneousEventsAreSettled : Obligations.SimultaneousEventsAreSettled := by
  refine ⟨fun s w hrst _ => by rw [decode_of_rst hrst], fun b now s t hexec => ?_⟩
  rw [out_eq_of_exec hexec]
  exact ⟨rfl, fun ⟨hpress, hrelease⟩ => tickOutputs_not_press_of_release hrelease hpress⟩

end Sys2Proof.Machine

/-! The reset (70_reset_and_hazards.md R140): what RESET answers, from any state. -/

namespace Sys2Proof.Machine

/-- R140: RESET lands the reset registers and the zero outputs, which do not depend on the state. -/
theorem exec_reset (s : State) :
    exec .reset s = .next { s with regs := Regs.afterReset, out := Outputs.afterReset } :=
  exec_eq_commit .reset s

/-- Settles O13: `rst` alone decides the word, and the records RESET lands hold the reset values. -/
theorem resetNextState : Obligations.ResetNextState :=
  ⟨fun _ => decode_of_rst, exec_reset⟩

end Sys2Proof.Machine

/-! The canonical words (30_encoding.md R50, R58): their three lines at every width of the time base, what encoding and
decoding keep of one another, and the numbers that the stimulus lines list. -/

namespace Sys2Proof

/-! ### The operation of a word at any width, from its lines (R50, R54; log entry 2) -/

section DecodeAtByLines

variable {tW : Nat} {w : InWordAt tW}

theorem decodeAt_of_rst (hrst : rstLine w = true) : decodeAt tW w = .reset := by
  simp [decodeAt, hrst]

theorem decodeAt_of_tick (hrst : rstLine w = false) (htick : tickLine w = true) :
    decodeAt tW w = .tick (sampleField w) (nowField w) := by
  simp [decodeAt, hrst, htick]

theorem decodeAt_of_no_line (hrst : rstLine w = false) (htick : tickLine w = false) : decodeAt tW w = .hold := by
  simp [decodeAt, hrst, htick]

end DecodeAtByLines

/-- Settles O43: the three bits above the time are the lines the decoder reads, and the reference layout is the case of
width 32. -/
theorem wordLayoutFollowsTheTimeWidth : Obligations.WordLayoutFollowsTheTimeWidth :=
  ⟨fun _ _ => ⟨decodeAt_of_rst, decodeAt_of_tick, decodeAt_of_no_line⟩, fun _ => rfl, fun _ => rfl⟩

/-! ### The lines of the canonical words (R58) -/

section CanonicalLines

variable (tW : Nat) (sample : Bool) (now : Nat)

theorem rstLine_encodeAt_tick : rstLine (encodeAt tW (.tick sample now)) = false := by
  simp [rstLine, encodeAt_tick_getLsbD]

theorem tickLine_encodeAt_tick : tickLine (encodeAt tW (.tick sample now)) = true := by
  simp [tickLine, encodeAt_tick_getLsbD]

theorem sampleField_encodeAt_tick : sampleField (encodeAt tW (.tick sample now)) = sample := by
  rw [sampleField, btnLine, encodeAt_tick_getLsbD]
  simp

theorem rstLine_encodeAt_hold : rstLine (encodeAt tW .hold) = false := by
  simp [encodeAt_hold, rstLine]

theorem tickLine_encodeAt_hold : tickLine (encodeAt tW .hold) = false := by
  simp [encodeAt_hold, tickLine]

end CanonicalLines

/-- Settles O1: the lines of the canonical word select the operation, and the low bits are the time when it fits. -/
theorem decodeEncodeRoundTrip : Obligations.DecodeEncodeRoundTrip := by
  intro tW i hwf
  cases i with
  | reset => exact decodeAt_of_rst (rstLine_encodeAt_reset tW)
  | hold => exact decodeAt_of_no_line (rstLine_encodeAt_hold tW) (tickLine_encodeAt_hold tW)
  | tick sample now =>
    have hnow : now < 2 ^ tW := by simpa [Instr.wf] using hwf
    rw [decodeAt_of_tick (rstLine_encodeAt_tick ..) (tickLine_encodeAt_tick ..), sampleField_encodeAt_tick,
      nowField_encodeAt_tick, Nat.mod_eq_of_lt hnow]

/-! ### Encoding what a word decodes to (R56, R58) -/

/-- A TICK word has no ignored field: its operands fill the canonical word again. -/
theorem encode_tick_of_word {w : InWord} (hrst : w[34] = false) (htick : w[33] = true) :
    encode (.tick (!w[32]) (w.toNat % 2 ^ 32)) = w := by
  apply BitVec.eq_of_getLsbD_eq
  intro i hi
  rw [encode, encodeAt_tick_getLsbD]
  by_cases hnow : i < 32
  · rw [if_pos hnow, BitVec.getLsbD_ofNat, Nat.testBit_mod_two_pow, BitVec.testBit_toNat]
    simp [hnow]
  · obtain rfl | rfl | rfl : i = 32 ∨ i = 33 ∨ i = 34 := by omega
    · simp
    · simpa using htick.symm
    · simpa using hrst.symm

/-- Settles O2: RESET and HOLD have one canonical word each, and a TICK word is its own. -/
theorem encodeDecodeKeepsReadBits : Obligations.EncodeDecodeKeepsReadBits := by
  intro w
  cases hrst : w[34] with
  | true => rw [decode_of_rst hrst]; rfl
  | false =>
    cases htick : w[33] with
    | true => rw [decode_of_tick hrst htick, encode_tick_of_word hrst htick]; rfl
    | false => rw [decode_of_no_line hrst htick]; rfl

/-- Settles O5: by evaluating the decoder on the eight words. -/
theorem specWordsDecode : Obligations.SpecWordsDecode := by
  unfold Obligations.SpecWordsDecode
  decide

/-! ### The stimulus lines (R58) -/

/-- The canonical word of TICK as a number: `btn_n` stands right above the 32 bits of the time. -/
theorem encode_tick_toNat (pressed : Bool) (t : Nat) :
    (encode (.tick pressed t)).toNat = (if pressed then 0x200000000 else 0x300000000) + t % 2 ^ 32 := by
  have ht := Nat.mod_lt t (Nat.two_pow_pos 32)
  rw [encode, encodeAt, BitVec.toNat_append, BitVec.toNat_ofNat, ← Nat.shiftLeft_add_eq_or_of_lt ht]
  cases pressed <;> rfl

/-- Every operation of a line is well formed at the reference width: its time is taken modulo `2^32`. -/
theorem StimLine.wf_of_mem_ops {line : StimLine} {i : Instr} (hi : i ∈ line.ops) : i.wf 32 = true := by
  have hmod (t : Nat) : t % 4294967296 < 4294967296 := Nat.mod_lt t (by decide)
  cases line <;> simp only [StimLine.ops, List.mem_singleton, List.mem_replicate, List.mem_map] at hi
  case reset | hold => rw [hi, Instr.wf]
  case holds => rw [hi.2, Instr.wf]
  case tick => simp [hi, Instr.wf, hmod]
  case ticks =>
    obtain ⟨k, -, rfl⟩ := hi
    simp [Instr.wf, hmod]

/-- The words of a line decode to the operations they were made of. -/
theorem StimLine.decode_words (line : StimLine) : line.words.map decode = line.ops := by
  rw [StimLine.words, List.map_map]
  exact (List.map_congr_left fun i hi => decodeEncodeRoundTrip 32 i (StimLine.wf_of_mem_ops hi)).trans (List.map_id _)

/-- Settles O9: each word is the number of its canonical word, and every line decodes back. -/
theorem stimulusLinesGiveTheirWords : Obligations.StimulusLinesGiveTheirWords := by
  refine ⟨rfl, fun t ht => ⟨?_, ?_⟩, rfl, fun n => ?_, fun pressed t0 d n => ?_, StimLine.decode_words⟩
  · simpa [StimLine.words, StimLine.ops, encode_tick_toNat] using ht
  · simpa [StimLine.words, StimLine.ops, encode_tick_toNat] using ht
  · simp only [StimLine.words, StimLine.ops, List.map_replicate]
    rfl
  · simp [StimLine.words, StimLine.ops, encode_tick_toNat, Function.comp_def]

end Sys2Proof

/-! The output word (30_encoding.md R52): each field at its bits. -/

namespace Sys2Proof.Machine

/-- The bits of the output word as the table of section 2 lists them, bit 0 first. -/
def Outputs.bits (o : Outputs) : List Bool :=
  [o.pressEvt, o.releaseEvt, o.modeEntry, o.dispatchValid, o.dispatchMode.toBits[0], o.dispatchMode.toBits[1],
    o.mode.toBits[0], o.mode.toBits[1], o.confirmedLevel]

section OutputWord

variable (o : Outputs)

theorem Outputs.toWord_getLsbD (i : Nat) : o.toWord.getLsbD i = o.bits.getD i false := by
  change @BitVec.getLsbD (1 + 2 + 2 + 1 + 1 + 1 + 1)
    (BitVec.ofBool o.confirmedLevel ++ o.mode.toBits ++ o.dispatchMode.toBits ++ BitVec.ofBool o.dispatchValid
      ++ BitVec.ofBool o.modeEntry ++ BitVec.ofBool o.releaseEvt ++ BitVec.ofBool o.pressEvt) i = _
  simp only [BitVec.getLsbD_append, Outputs.bits]
  match i with
  | 0 | 1 | 2 | 3 | 4 | 5 | 6 | 7 | 8 => simp
  | i + 9 => simp

@[simp] theorem Outputs.toWord_pressEvt : o.toWord[0] = o.pressEvt := o.toWord_getLsbD 0

@[simp] theorem Outputs.toWord_releaseEvt : o.toWord[1] = o.releaseEvt := o.toWord_getLsbD 1

@[simp] theorem Outputs.toWord_modeEntry : o.toWord[2] = o.modeEntry := o.toWord_getLsbD 2

@[simp] theorem Outputs.toWord_dispatchValid : o.toWord[3] = o.dispatchValid := o.toWord_getLsbD 3

@[simp] theorem Outputs.toWord_dispatchMode : o.toWord.extractLsb' 4 2 = o.dispatchMode.toBits := by
  apply BitVec.eq_of_getElem_eq
  intro i hi
  obtain rfl | rfl : i = 0 ∨ i = 1 := by omega
  · rw [BitVec.getElem_extractLsb']
    exact o.toWord_getLsbD _
  · rw [BitVec.getElem_extractLsb']
    exact o.toWord_getLsbD _

@[simp] theorem Outputs.toWord_mode : o.toWord.extractLsb' 6 2 = o.mode.toBits := by
  apply BitVec.eq_of_getElem_eq
  intro i hi
  obtain rfl | rfl : i = 0 ∨ i = 1 := by omega
  · rw [BitVec.getElem_extractLsb']
    exact o.toWord_getLsbD _
  · rw [BitVec.getElem_extractLsb']
    exact o.toWord_getLsbD _

@[simp] theorem Outputs.toWord_confirmedLevel : o.toWord[8] = o.confirmedLevel := o.toWord_getLsbD 8

/-- The word determines the record. -/
@[simp] theorem Outputs.ofWord_toWord : Outputs.ofWord o.toWord = o := by
  simp [Outputs.ofWord]

end OutputWord

/-- Settles O7: field by field, and the record from the seven fields. -/
theorem outputWordShowsEveryField : Obligations.OutputWordShowsEveryField := fun o =>
  ⟨o.toWord_pressEvt, o.toWord_releaseEvt, o.toWord_modeEntry, o.toWord_dispatchValid, o.toWord_dispatchMode,
    o.toWord_mode, o.toWord_confirmedLevel, o.ofWord_toWord⟩

end Sys2Proof.Machine

/-! One edge (00_scope.md section 4): the step is the operation of its word, and a run of the host's machine is the run
of the decoded operations. -/

namespace Sys2Proof.Machine

/-! ### The state an operation leaves -/

/-- The state an operation leaves: its registers and outputs landed, the rest as before (R8, R43). -/
def State.after (s : State) (i : Instr) : State :=
  s.commit (regsAfter s.config s.regs i) (outAfter s.config s.regs i)

section After

variable (s : State) (i : Instr) (is : List Instr)

@[simp] theorem State.after_regs : (s.after i).regs = regsAfter s.config s.regs i := rfl
@[simp] theorem State.after_out : (s.after i).out = outAfter s.config s.regs i := rfl
@[simp] theorem State.after_config : (s.after i).config = s.config := rfl

theorem exec_eq_after : exec i s = .next (s.after i) := exec_eq_commit i s

theorem runOps_cons_after : runOps (i :: is) s = runOps is (s.after i) := runOps_cons i is s

theorem outputTrace_cons_after :
    outputTrace (i :: is) s = (i, outAfter s.config s.regs i) :: outputTrace is (s.after i) :=
  outputTrace_cons i is s

end After

/-- The inversion of an operation. -/
theorem eq_after_of_exec {i : Instr} {s t : State} (h : exec i s = .next t) : t = s.after i := by
  rw [exec_eq_after, Host.Outcome.next.injEq] at h
  exact h.symm

/-- The inversion of a step: what its operation leaves of the state with the word used up. -/
theorem eq_after_of_step {s t : State} (h : step s = .next t) : t = s.consumeInput.after s.nextOp :=
  eq_after_of_exec h

/-- Settles O25: a step lands registers and outputs and uses up its word, and nothing else. -/
theorem noStepChangesTheConfiguration : Obligations.NoStepChangesTheConfiguration := by
  intro s t hstep
  rw [eq_after_of_step hstep, State.after_config, State.consumeInput_config]

/-! ### Which word a step runs (R50, R54; log entries 3, 4 and 13) -/

theorem step_of_stimulus_cons {s : State} {w : Nat} {rest : List Nat} (h : s.stimulus = w :: rest) :
    step s = exec (decodeNumber s.config.timeWidth w) { s with stimulus := rest, edge := s.edge + 1 } := by
  simp only [step, State.nextOp, State.nextInput, State.consumeInput, h, List.tail_cons]

theorem step_of_stimulus_nil {s : State} (h : s.stimulus = []) :
    step s = exec (decodeNumber s.config.timeWidth (Config.freeInput s.edge)) { s with edge := s.edge + 1 } := by
  cases s
  subst h
  rfl

/-- Settles O10: the two cases of the stimulus. -/
theorem stepRunsTheDecodedOperation : Obligations.StepRunsTheDecodedOperation :=
  ⟨fun _ _ _ => step_of_stimulus_cons, fun _ => step_of_stimulus_nil⟩

/-- A number of 35 bits is an input word, however many bits it is given in (R50). -/
theorem inputWord_of_lt {nbits w : Nat} (hbits : 35 ≤ nbits) (hw : w < 2 ^ 35) :
    inputWord nbits w = .ok (BitVec.ofNat 35 w) := by
  have hmod : w % 2 ^ nbits = w :=
    Nat.mod_eq_of_lt (Nat.lt_of_lt_of_le hw (Nat.pow_le_pow_right (by decide) hbits))
  rw [inputWord, hmod, if_pos hw]

/-- A number of more than 35 bits is no input word (R57). -/
theorem inputWord_of_ge {nbits w : Nat} (hw : w < 2 ^ nbits) (hwide : 2 ^ 35 ≤ w) :
    inputWord nbits w = .error .wordTooWide := by
  rw [inputWord, Nat.mod_eq_of_lt hw, if_neg (Nat.not_lt.mpr hwide)]

/-- A presented word is the one the next step runs, and the rest of the stimulus stays. -/
theorem step_present (s : State) (w : Nat) :
    step (s.present w) = exec (decodeNumber s.config.timeWidth w) { s with edge := s.edge + 1 } :=
  step_of_stimulus_cons rfl

/-- Settles O6: below `2^35` the number is presented as the word it spells; from there on it is no input word. -/
theorem placedWordRunsNext : Obligations.PlacedWordRunsNext := by
  refine ⟨fun s nbits w hwidth hbits hw => ⟨?_, ?_⟩, fun nbits w hw hwide => ?_⟩
  · rw [decodeTableWord, inputWord_of_lt hbits hw]
  · rw [State.withFetchWord, inputWord_of_lt hbits hw]
    rw [step_present, hwidth, BitVec.toNat_ofNat, Nat.mod_eq_of_lt hw]
    rfl
  · rw [decodeTableWord, inputWord_of_ge hw hwide]

/-! ### The host's machine on a stimulus (R9; log entry 3) -/

/-- A run of the host's machine, unfolded by its first step. -/
theorem core_run_succ_of_step {s t : State} (h : step s = .next t) (n : Nat) :
    Sys2Proof.core.run (n + 1) s = Sys2Proof.core.run n t := by
  have hcore : Sys2Proof.core.step s = .next t := h
  simp only [Host.Core.run, hcore]

/-- The run on a stimulus, from any number of edges counted: no operation reads the stimulus or the count. -/
theorem runOps_and_core_run (ws rest : List Nat) : ∀ (e : Nat) (s : State), ∃ t,
    runOps (ws.map (decodeNumber s.config.timeWidth)) s = .next t ∧
    Sys2Proof.core.run ws.length { s with stimulus := ws ++ rest, edge := e } =
      .next { t with stimulus := rest, edge := e + ws.length } := by
  induction ws with
  | nil => exact fun e s => ⟨s, rfl, rfl⟩
  | cons w ws ih =>
    intro e s
    have hstep : step { s with stimulus := w :: (ws ++ rest), edge := e } =
        .next { s.after (decodeNumber s.config.timeWidth w) with stimulus := ws ++ rest, edge := e + 1 } := by
      rw [step_of_stimulus_cons rfl, exec_eq_after]
      rfl
    obtain ⟨t, hops, hrun⟩ := ih (e + 1) (s.after (decodeNumber s.config.timeWidth w))
    refine ⟨t, ?_, ?_⟩
    · rw [List.map_cons, runOps_cons_after]
      exact hops
    · rw [List.length_cons, List.cons_append, core_run_succ_of_step hstep, hrun, Nat.add_assoc, Nat.add_comm 1]

/-- Settles O12: by induction on the words, from the edge the state counts. -/
theorem stimulusRunsAsItsOperations : Obligations.StimulusRunsAsItsOperations := fun ws rest s =>
  runOps_and_core_run ws rest s.edge s

end Sys2Proof.Machine

/-! Single edges of the detector (40_edge_detector.md sections 2, 4 and 5): the events as moves of the latch, the TICKs
that change little or nothing, and the elapsed time over the real times of the time base. -/

namespace Sys2Proof.Machine

/-! ### Events and the latch (R73, R74, R76) -/

section EventsAndLatch

variable (c : Config) (r : Regs)

/-- R73 and R74: away from RESET a press is the latch rising. -/
theorem outAfter_pressEvt_iff {i : Instr} (hi : isRunning i = true) :
    (outAfter c r i).pressEvt = true ↔ r.pressLatched = false ∧ (regsAfter c r i).pressLatched = true := by
  cases i with
  | reset => simp [isRunning] at hi
  | hold => simp [outAfter, quietOutputs, regsAfter]
  | tick b now =>
    simp only [outAfter, regsAfter, tickOutputs_pressEvt, tickRegs_pressLatched]
    cases stable c r b now <;> simp [and_comm]

/-- R76 and R74: away from RESET a release is the latch falling. -/
theorem outAfter_releaseEvt_iff {i : Instr} (hi : isRunning i = true) :
    (outAfter c r i).releaseEvt = true ↔ r.pressLatched = true ∧ (regsAfter c r i).pressLatched = false := by
  cases i with
  | reset => simp [isRunning] at hi
  | hold => simp [outAfter, quietOutputs, regsAfter]
  | tick b now =>
    simp only [outAfter, regsAfter, tickOutputs_releaseEvt, tickRegs_pressLatched]
    cases stable c r b now <;> simp [and_comm]

/-- R33: every operation keeps latch and confirmed level equal, since it writes them together. -/
theorem regsAfter_pressLatched_eq_confirmedLevel {r : Regs} (h : r.pressLatched = r.confirmedLevel) (i : Instr) :
    (regsAfter c r i).pressLatched = (regsAfter c r i).confirmedLevel := by
  cases i with
  | reset => rfl
  | hold => exact h
  | tick b now => simp only [regsAfter, tickRegs_pressLatched, tickRegs_confirmedLevel, h]

end EventsAndLatch

/-- Settles O46: the two events are the two ways the latch can move. -/
theorem eventsAreTheLatchMoving : Obligations.EventsAreTheLatchMoving := fun i s hi =>
  ⟨s.after i, exec_eq_after s i, outAfter_pressEvt_iff _ _ hi, outAfter_releaseEvt_iff _ _ hi⟩

/-- Settles O21: a release is the latch falling, and latch and confirmed level agree before and after. -/
theorem releaseEventIsTheLatchClearing : Obligations.ReleaseEventIsTheLatchClearing := by
  intro b now s t hagree hexec
  rw [regs_eq_of_exec hexec, out_eq_of_exec hexec]
  have hlatch := outAfter_releaseEvt_iff s.config s.regs (i := .tick b now) rfl
  have hafter := regsAfter_pressLatched_eq_confirmedLevel s.config hagree (.tick b now)
  exact ⟨hlatch, by rwa [← hagree, ← hafter]⟩

/-! ### TICKs that change little or nothing (R78, R105) -/

/-- R78 (a): a change TICK writes the sample and its time. -/
theorem detect_of_change (c : Config) (r : Regs) (now : Nat) :
    detect c r (!r.rawLevel) now =
      { regs := { r with rawLevel := !r.rawLevel, stableSince := now % 2 ^ c.timeWidth }
        pressEvt := false, releaseEvt := false } := by
  rw [detect_of_not_stable (not_stable_of_change c r now), sinceAfter_of_ne (by simp), narrow]

/-- R78: a TICK of the level held, not past the window, does nothing. -/
theorem detect_of_held_within_window {c : Config} {r : Regs} {now : Nat}
    (h : age c.timeWidth r.stableSince now ≤ c.wMs) :
    detect c r r.rawLevel now = { regs := r, pressEvt := false, releaseEvt := false } := by
  have hstable : stable c r r.rawLevel now = false := by
    rw [← Bool.not_eq_true, stable_iff, sinceAfter_same]
    omega
  rw [detect_of_not_stable hstable, sinceAfter_same]

/-- R78 (e): a TICK of a level that latch and confirmed level already have does nothing, stable or not. -/
theorem detect_of_agreed {c : Config} {r : Regs} (hlatch : r.pressLatched = r.rawLevel)
    (hconfirmed : r.confirmedLevel = r.rawLevel) (now : Nat) :
    detect c r r.rawLevel now = { regs := r, pressEvt := false, releaseEvt := false } := by
  cases hstable : stable c r r.rawLevel now with
  | false => rw [detect_of_not_stable hstable, sinceAfter_same]
  | true =>
    rw [detect_of_stable hstable, sinceAfter_same]
    obtain ⟨raw, since, confirmed, latched, mode⟩ := r
    obtain rfl : latched = raw := hlatch
    obtain rfl : confirmed = latched := hconfirmed
    simp

/-- Settles O22: the detector's answer to a change, with the mode kept. -/
theorem changeTickIsSilent : Obligations.ChangeTickIsSilent := by
  intro now s
  simp only [exec_eq_commit, regsAfter, outAfter, detect_of_change]
  rfl

/-- Settles O23: the detector's answer to a level it already agrees with. -/
theorem quietTickChangesNoRegister : Obligations.QuietTickChangesNoRegister := by
  intro now s hlatch hconfirmed
  simp only [exec_eq_commit, regsAfter, outAfter, detect_of_agreed hlatch hconfirmed]
  rfl

/-! ### The elapsed time over real times (R79, R80) -/

/-- The elapsed time is a difference of what the port and the register hold. -/
theorem age_mod_mod (tW a b : Nat) : age tW (a % 2 ^ tW) (b % 2 ^ tW) = age tW a b := by
  simp only [age_eq, Nat.mod_mod]

/-- Forwards, the elapsed time is the gap modulo `2^T_W`. -/
theorem age_eq_gap_mod {a b : Nat} (h : a ≤ b) (tW : Nat) : age tW a b = (b - a) % 2 ^ tW := by
  obtain ⟨d, rfl⟩ := Nat.exists_eq_add_of_le h
  rw [age, BitVec.ofNat_add, add_sub_cancel_left, Nat.add_sub_cancel_left, BitVec.toNat_ofNat]

/-- Backwards by less than the range, the elapsed time is the rest of the range. -/
theorem age_eq_range_sub {tW a b : Nat} (h : b < a) (hgap : a - b < 2 ^ tW) :
    age tW a b = 2 ^ tW - (a - b) := by
  obtain ⟨d, rfl⟩ := Nat.exists_eq_add_of_le h.le
  rw [Nat.add_sub_cancel_left] at hgap ⊢
  rw [age, BitVec.ofNat_add, sub_add_cancel_left, BitVec.toNat_neg, BitVec.toNat_ofNat, Nat.mod_eq_of_lt hgap,
    Nat.mod_eq_of_lt (by omega)]

/-- A pressed level that the latch has not taken is reported by its age alone (R72, R73). -/
theorem pressEvt_iff_of_held {c : Config} {r : Regs} (hraw : r.rawLevel = true) (hlatch : r.pressLatched = false)
    (now : Nat) :
    (tickOutputs (detect c r true now)).pressEvt = true ↔ c.wMs < age c.timeWidth r.stableSince now := by
  have hstable := stable_iff c r r.rawLevel now
  rw [sinceAfter_same, hraw] at hstable
  rw [tickOutputs_pressEvt, ← hstable, hlatch]
  simp

/-- Settles O24: the press is decided by the age, which is the gap forwards and the rest of the range backwards. -/
theorem pressDecidedByModularElapsedTime : Obligations.PressDecidedByModularElapsedTime := by
  rintro s _ a b rfl hraw hlatch hsince
  have hpress := pressEvt_iff_of_held (c := s.config) hraw hlatch (b % 2 ^ s.config.timeWidth)
  rw [hsince, age_mod_mod] at hpress
  refine ⟨_, exec_eq_after s _, fun hle => ?_, fun hle hgap => ?_, fun hlt hgap => ?_⟩
  · exact hpress.trans (by rw [age_eq_gap_mod hle])
  · exact hpress.trans (by rw [age_eq_gap_mod hle, Nat.mod_eq_of_lt hgap])
  · exact hpress.trans (by rw [age_eq_range_sub hlt hgap])

/-! ### What the outputs ask of the downstream (R92, R102, R149) -/

/-- Settles O26: a TICK always asks to run the mode after it and drives `mode_entry` from the press; HOLD and RESET
drive neither output. -/
theorem dutiesComeInOrder : Obligations.DutiesComeInOrder := by
  refine ⟨fun b now s t hexec => ?_, fun s t hexec => ?_, fun s t hexec => ?_⟩
  · rw [regs_eq_of_exec hexec, out_eq_of_exec hexec]
    rfl
  · rw [out_eq_of_exec hexec]
    rfl
  · rw [out_eq_of_exec hexec]
    rfl

end Sys2Proof.Machine

/-! The invariants of the block (10_state.md section 3; 00_scope.md section 3): what every operation keeps, and RESET
gives. -/

namespace Sys2Proof.Machine

/-! ### Registers and outputs agree (R33, R52, R91, R104, R122) -/

section OutputsOfOneStep

variable (c : Config) (r : Regs) (i : Instr)

theorem outAfter_dispatchMode : (outAfter c r i).dispatchMode = (regsAfter c r i).mode := by
  cases i <;> rfl

theorem outAfter_modeEntry : (outAfter c r i).modeEntry = (outAfter c r i).pressEvt := by
  cases i <;> rfl

theorem outAfter_not_press_and_release :
    ¬ ((outAfter c r i).pressEvt = true ∧ (outAfter c r i).releaseEvt = true) := by
  cases i with
  | reset => exact nofun
  | hold => exact nofun
  | tick b now => exact fun ⟨hpress, hrelease⟩ => tickOutputs_not_press_of_release hrelease hpress

theorem outAfter_dispatchValid_of_event
    (h : (outAfter c r i).pressEvt = true ∨ (outAfter c r i).releaseEvt = true) :
    (outAfter c r i).dispatchValid = true := by
  cases i with
  | reset => simp [outAfter, Outputs.afterReset] at h
  | hold => simp [outAfter, quietOutputs] at h
  | tick b now => rfl

end OutputsOfOneStep

/-- An operation that leaves latch and confirmed level equal leaves the whole invariant: the outputs it drives agree
with the registers it leaves, from every state. -/
theorem consistent_after {s : State} {i : Instr}
    (h : (s.after i).regs.pressLatched = (s.after i).regs.confirmedLevel) : Consistent (s.after i) :=
  ⟨h, outAfter_mode .., outAfter_dispatchMode .., outAfter_confirmedLevel .., outAfter_modeEntry ..,
    outAfter_not_press_and_release _ _ _, outAfter_dispatchValid_of_event _ _ _⟩

/-- Settles O27: the step's operation keeps latch and confirmed level equal, and drives its outputs afresh. -/
theorem consistencyKeptByEveryStep : Obligations.ConsistencyKeptByEveryStep := by
  rintro s t ⟨hlatch, -⟩ hstep
  rw [eq_after_of_step hstep]
  exact consistent_after (regsAfter_pressLatched_eq_confirmedLevel _ hlatch _)

/-- Settles O28: RESET clears latch and confirmed level, and the reset state is what it leaves. -/
theorem resetGivesConsistency : Obligations.ResetGivesConsistency := by
  have hreset (s : State) : Consistent (s.after .reset) := consistent_after rfl
  refine ⟨hreset State.reset, fun s t hexec => ?_⟩
  rw [eq_after_of_exec hexec]
  exact hreset s

/-! ### The window and `stableSince` fit the width (R6, R20) -/

/-- R71: every operation keeps `stableSince` within the width, whatever time its operand has. -/
theorem regsAfter_stableSince_lt {c : Config} {r : Regs} (h : r.stableSince < 2 ^ c.timeWidth) (i : Instr) :
    (regsAfter c r i).stableSince < 2 ^ c.timeWidth := by
  cases i with
  | reset => exact Nat.two_pow_pos _
  | hold => exact h
  | tick b now => exact sinceAfter_lt h b now

/-- Settles O44: the configuration stays, and the step's operation keeps `stableSince` within its width. -/
theorem registersKeepTheirWidth : Obligations.RegistersKeepTheirWidth := by
  rintro s t ⟨hwindow, hsince⟩ hstep
  rw [eq_after_of_step hstep]
  exact ⟨hwindow, regsAfter_stableSince_lt (c := s.config) hsince s.nextOp⟩

/-- Settles O45: the reference window is below `2^32`, and RESET writes 0 and leaves the window. -/
theorem resetFitsTheWidth : Obligations.ResetFitsTheWidth := by
  refine ⟨⟨by decide, by decide⟩, fun s t hwindow hexec => ?_⟩
  rw [eq_after_of_exec hexec]
  exact ⟨hwindow, Nat.two_pow_pos _⟩

end Sys2Proof.Machine

/-! Sequences of operations (10_state.md section 3; 40_edge_detector.md section 5; 41_mode_controller.md section 2;
70_reset_and_hazards.md section 3): the registers a sequence leaves and the events it raises. -/

namespace Sys2Proof.Machine

/-! ### What a sequence leaves -/

/-- A sequence completes, with the registers folded through its operations and the configuration kept. -/
theorem exists_runOps_eq_next (is : List Instr) : ∀ s : State, ∃ t, runOps is s = .next t ∧
    t.regs = is.foldl (regsAfter s.config) s.regs ∧ t.config = s.config := by
  induction is with
  | nil => exact fun s => ⟨s, rfl, rfl, rfl⟩
  | cons i is ih =>
    intro s
    rw [runOps_cons_after]
    exact ih (s.after i)

/-- What a sequence drives depends on the registers and the configuration alone. -/
theorem outputTrace_congr (is : List Instr) : ∀ {s u : State}, s.regs = u.regs → s.config = u.config →
    outputTrace is s = outputTrace is u := by
  induction is with
  | nil => exact fun _ _ => rfl
  | cons i is ih =>
    intro s u hregs hconfig
    rw [outputTrace_cons_after, outputTrace_cons_after, hregs, hconfig]
    congr 1
    exact ih (by simp [hregs, hconfig]) hconfig

/-- Every operation of a sequence completes. -/
theorem outputTrace_length (is : List Instr) : ∀ s : State, (outputTrace is s).length = is.length := by
  induction is with
  | nil => exact fun _ => rfl
  | cons i is ih => exact fun s => by rw [outputTrace_cons_after, List.length_cons, ih, List.length_cons]

/-! ### Where `stableSince` comes from (R22, R34) -/

/-- What an operation can do to `stableSince`: leave it, clear it, or write the `now` of its TICK. -/
theorem regsAfter_stableSince_cases (c : Config) (r : Regs) (i : Instr) :
    (regsAfter c r i).stableSince = r.stableSince ∨ (regsAfter c r i).stableSince = 0 ∨
      ∃ b now, i = .tick b now ∧ (regsAfter c r i).stableSince = now % 2 ^ c.timeWidth := by
  cases i with
  | reset => exact .inr (.inl rfl)
  | hold => exact .inl rfl
  | tick b now =>
    rw [regsAfter, tickRegs_stableSince]
    split
    · exact .inl rfl
    · exact .inr (.inr ⟨b, now, rfl, rfl⟩)

theorem foldl_regsAfter_stableSince (c : Config) {r : Regs} (h : r.stableSince = 0) (is : List Instr) :
    (is.foldl (regsAfter c) r).stableSince = 0 ∨
      ∃ b now, Instr.tick b now ∈ is ∧ (is.foldl (regsAfter c) r).stableSince = now % 2 ^ c.timeWidth := by
  induction is using List.reverseRecOn with
  | nil => exact .inl h
  | append_singleton is i ih =>
    rw [List.foldl_concat]
    obtain hkept | hzero | ⟨b, now, rfl, hnow⟩ := regsAfter_stableSince_cases c (is.foldl (regsAfter c) r) i
    · rw [hkept]
      exact ih.imp_right fun ⟨b, now, hmem, hnow⟩ => ⟨b, now, List.mem_append_left _ hmem, hnow⟩
    · exact .inl hzero
    · exact .inr ⟨b, now, List.mem_append_right _ (List.mem_singleton_self _), hnow⟩

/-- Settles O29: RESET clears the register, and the operations after it only write their own times. -/
theorem stableSinceIsZeroOrASampledTime : Obligations.StableSinceIsZeroOrASampledTime := by
  intro is s
  obtain ⟨t, hrun, hregs, -⟩ := exists_runOps_eq_next is (s.after .reset)
  refine ⟨t, by rwa [runOps_cons_after], ?_⟩
  rw [hregs]
  exact foldl_regsAfter_stableSince _ rfl is

/-! ### Presses and releases alternate (R81) -/

/-- The event that the latch allows next: a release where it is set, a press where it is clear. -/
def expectedEvent (latched : Bool) : Event := if latched then .release else .press

/-- The latch rising shows one press, falling one release, and nothing else shows an event. -/
theorem eventsOf_outAfter (c : Config) (r : Regs) {i : Instr} (hi : isRunning i = true) :
    eventsOf (outAfter c r i) =
      if (regsAfter c r i).pressLatched = r.pressLatched then [] else [expectedEvent r.pressLatched] := by
  have hpress : (outAfter c r i).pressEvt = (!r.pressLatched && (regsAfter c r i).pressLatched) := by
    rw [Bool.eq_iff_iff, outAfter_pressEvt_iff c r hi]
    simp
  have hrelease : (outAfter c r i).releaseEvt = (r.pressLatched && !(regsAfter c r i).pressLatched) := by
    rw [Bool.eq_iff_iff, outAfter_releaseEvt_iff c r hi]
    simp
  rw [eventsOf, hpress, hrelease]
  cases r.pressLatched <;> cases (regsAfter c r i).pressLatched <;> rfl

/-- The events of one operation are in turn, and leave the turn to the latch after it. -/
theorem alternates_eventsOf_append (c : Config) (r : Regs) {i : Instr} (hi : isRunning i = true)
    (rest : List Event) :
    alternates (expectedEvent r.pressLatched) (eventsOf (outAfter c r i) ++ rest) =
      alternates (expectedEvent (regsAfter c r i).pressLatched) rest := by
  rw [eventsOf_outAfter c r hi]
  split
  case isTrue hsame => rw [hsame, List.nil_append]
  case isFalse hmoved =>
    rw [← Ne, ← Bool.eq_not_iff] at hmoved
    rw [hmoved]
    cases r.pressLatched <;> simp [alternates, expectedEvent]

theorem alternates_outputTrace (is : List Instr) : ∀ s : State, (∀ i ∈ is, isRunning i = true) →
    alternates (expectedEvent s.regs.pressLatched) ((outputTrace is s).flatMap fun p => eventsOf p.2) = true := by
  induction is with
  | nil => exact fun _ _ => rfl
  | cons i is ih =>
    intro s hrunning
    obtain ⟨hi, his⟩ := List.forall_mem_cons.mp hrunning
    rw [outputTrace_cons_after, List.flatMap_cons, alternates_eventsOf_append _ _ hi]
    exact ih (s.after i) his

/-- Settles O31: each operation's events are in turn, by induction on the sequence. -/
theorem pressAndReleaseAlternate : Obligations.PressAndReleaseAlternate := fun is s hrunning =>
  ⟨outputTrace_length is s, alternates_outputTrace is s hrunning⟩

/-! ### The mode counts presses (R96) -/

/-- R90: away from RESET the mode moves one step on a press and stays otherwise. -/
theorem regsAfter_mode (c : Config) (r : Regs) {i : Instr} (hi : isRunning i = true) :
    (regsAfter c r i).mode = advance r.mode (outAfter c r i).pressEvt := by
  cases i with
  | reset => simp [isRunning] at hi
  | hold => rfl
  | tick b now => rfl

theorem advance_toNat (m : ModeId) (p : Bool) :
    (advance m p).toBits.toNat = (m.toBits.toNat + p.toNat) % 4 := by
  cases p with
  | false => exact (Nat.mod_eq_of_lt m.toBits.isLt).symm
  | true => exact nextMode_toNat m

theorem foldl_regsAfter_mode_toNat (is : List Instr) : ∀ s : State, (∀ i ∈ is, isRunning i = true) →
    (is.foldl (regsAfter s.config) s.regs).mode.toBits.toNat =
      (s.regs.mode.toBits.toNat + (outputTrace is s).countP fun p => p.2.pressEvt) % 4 := by
  induction is with
  | nil => exact fun s _ => (Nat.mod_eq_of_lt s.regs.mode.toBits.isLt).symm
  | cons i is ih =>
    intro s hrunning
    obtain ⟨hi, his⟩ := List.forall_mem_cons.mp hrunning
    have hrest := ih (s.after i) his
    rw [State.after_regs, State.after_config, regsAfter_mode _ _ hi, advance_toNat] at hrest
    rw [List.foldl_cons, hrest, outputTrace_cons_after, List.countP_cons]
    cases (outAfter s.config s.regs i).pressEvt with
    | false => simp
    | true => simp only [Bool.toNat_true, if_true]; omega

/-- Settles O32: each press adds one to the code modulo four, by induction on the sequence. -/
theorem modeCountsPressesModuloFour : Obligations.ModeCountsPressesModuloFour := by
  intro is s hrunning
  obtain ⟨t, hrun, hregs, -⟩ := exists_runOps_eq_next is s
  exact ⟨t, hrun, by rw [hregs, foldl_regsAfter_mode_toNat is s hrunning]⟩

/-! ### HOLDs (R103, R152) -/

/-- HOLD leaves the registers, so a fold may leave it out. -/
theorem foldl_regsAfter_filter_hold (c : Config) (is : List Instr) (r : Regs) :
    (is.filter fun i => decide (i ≠ .hold)).foldl (regsAfter c) r = is.foldl (regsAfter c) r := by
  rw [List.foldl_filter]
  congr 1
  funext r i
  cases i <;> rfl

/-- A HOLD in front of a sequence does not change what the sequence drives. -/
theorem outputTrace_after_hold (is : List Instr) (s : State) : outputTrace is (s.after .hold) = outputTrace is s :=
  outputTrace_congr is rfl rfl

theorem outputTrace_filter_hold (is : List Instr) : ∀ s : State,
    (outputTrace is s).filter (fun p => decide (p.1 ≠ .hold)) =
      outputTrace (is.filter fun i => decide (i ≠ .hold)) s := by
  induction is with
  | nil => exact fun _ => rfl
  | cons i is ih =>
    intro s
    rw [outputTrace_cons_after]
    by_cases hi : i = .hold
    · subst hi
      simpa [outputTrace_after_hold] using ih s
    · simpa [hi, outputTrace_cons_after] using ih (s.after i)

/-- Settles O40: HOLD leaves what the later operations read. -/
theorem holdsMayStandAnywhere : Obligations.HoldsMayStandAnywhere := by
  intro is s
  obtain ⟨t, hrun, hregs, hconfig⟩ := exists_runOps_eq_next is s
  obtain ⟨u, hrun', hregs', hconfig'⟩ := exists_runOps_eq_next (is.filter fun i => decide (i ≠ .hold)) s
  refine ⟨t, u, hrun, hrun', ?_, hconfig.trans hconfig'.symm, outputTrace_filter_hold is s⟩
  rw [hregs, hregs', foldl_regsAfter_filter_hold]

/-! ### The success pause (R145) -/

/-- The outputs of a pause: the HOLDs show the levels, and what follows is driven as without them. -/
theorem outputTrace_holds_append (n : Nat) (is : List Instr) (s : State) :
    outputTrace (List.replicate n .hold ++ is) s =
      List.replicate n (.hold, quietOutputs s.regs) ++ outputTrace is s := by
  induction n with
  | zero => rfl
  | succ n ih =>
    rw [List.replicate_succ, List.cons_append, outputTrace_cons_after, outputTrace_after_hold, ih]
    rfl

/-- A TICK on which the detector does nothing leaves every register and drives no event. -/
theorem tick_of_detect_quiet {c : Config} {r : Regs} {b : Bool} {now : Nat}
    (h : detect c r b now = { regs := r, pressEvt := false, releaseEvt := false }) :
    regsAfter c r (.tick b now) = r ∧ eventsOf (outAfter c r (.tick b now)) = [] := by
  rw [regsAfter, outAfter, h]
  exact ⟨rfl, rfl⟩

/-- The events around a pause whose first TICK does nothing: those of the last TICK, from the state before. -/
theorem eventsOf_pause {s : State} {b b' : Bool} {before after : Nat} (n : Nat)
    (h : detect s.config s.regs b before = { regs := s.regs, pressEvt := false, releaseEvt := false }) :
    (outputTrace (.tick b before :: (List.replicate n .hold ++ [.tick b' after])) s).map (fun p => eventsOf p.2) =
      List.replicate (n + 1) [] ++ [eventsOf (outAfter s.config s.regs (.tick b' after))] := by
  obtain ⟨hregs, hevents⟩ := tick_of_detect_quiet h
  rw [outputTrace_cons_after, outputTrace_holds_append, outputTrace_cons_after]
  simp only [State.after_config, State.after_regs, hregs, List.map_cons, List.map_append, List.map_replicate, hevents,
    List.replicate_succ, List.cons_append]
  rfl

/-- Settles O41: the TICK before the pause is not past the window and does nothing; after the pause the age is past
it. -/
theorem pauseConfirmsAHeldPressAtOnce : Obligations.PauseConfirmsAHeldPressAtOnce := by
  intro s before after n hraw hlatch hpause hsince hwithin hafter hwrap
  have hquiet := detect_of_held_within_window (c := s.config) (r := s.regs) (now := before)
    (by rwa [age_of_le hsince (by omega)])
  rw [hraw] at hquiet
  have hpress : (outAfter s.config s.regs (.tick true after)).pressEvt = true :=
    (pressEvt_iff_of_held hraw hlatch after).mpr (by rw [age_of_le (by omega) hwrap]; omega)
  have hrelease : (outAfter s.config s.regs (.tick true after)).releaseEvt = false := by
    simpa [hpress] using outAfter_not_press_and_release s.config s.regs (.tick true after)
  rw [eventsOf_pause n hquiet, eventsOf, hpress, hrelease]
  rfl

/-- Settles O42: neither TICK does anything, the first at its time and the last at any time. -/
theorem pauseHidesAChangeAndBack : Obligations.PauseHidesAChangeAndBack := by
  intro s before after n hlatch hconfirmed
  have hquiet := detect_of_agreed (c := s.config) hlatch hconfirmed
  obtain ⟨t, hrun, hregs, -⟩ := exists_runOps_eq_next
    (.tick s.regs.rawLevel before :: (List.replicate n .hold ++ [.tick s.regs.rawLevel after])) s
  refine ⟨⟨t, hrun, ?_⟩, ?_⟩
  · rw [hregs, ← foldl_regsAfter_filter_hold]
    simp [(tick_of_detect_quiet (hquiet _)).1]
  · rw [List.flatMap_def, eventsOf_pause n (hquiet before), (tick_of_detect_quiet (hquiet after)).2]
    simp

end Sys2Proof.Machine

/-! Runs of TICKs (40_edge_detector.md section 5): what holds of a level sampled without a change since its change tick,
and the laws of the press that follow. -/

namespace Sys2Proof.Machine

section Runs

variable {s : State} {b : Nat → Bool} {t : Nat → Nat} {l : Bool} {j k m : Nat}

/-! ### The registers from one TICK to the next -/

/-- R71: before a TICK `rawLevel` holds the sample of the one before it. -/
theorem ticked_succ_rawLevel : (ticked s b t (k + 1)).regs.rawLevel = b k := by
  rw [ticked_succ]
  rfl

/-- R74. -/
theorem ticked_succ_pressLatched :
    (ticked s b t (k + 1)).regs.pressLatched =
      if stable s.config (ticked s b t k).regs (b k) (t k) then b k else (ticked s b t k).regs.pressLatched := by
  rw [ticked_succ, State.commit_regs, tickRegs_pressLatched]

/-- R75. -/
theorem ticked_succ_confirmedLevel :
    (ticked s b t (k + 1)).regs.confirmedLevel =
      if stable s.config (ticked s b t k).regs (b k) (t k) then b k else (ticked s b t k).regs.confirmedLevel := by
  rw [ticked_succ, State.commit_regs, tickRegs_confirmedLevel]

/-- R90. -/
theorem ticked_succ_mode_of_press (h : pressAt s b t k) :
    (ticked s b t (k + 1)).regs.mode = nextMode (ticked s b t k).regs.mode := by
  rw [pressAt, ticked_succ] at h
  rw [ticked_succ]
  exact tickRegs_mode_of_press h

/-- R90. -/
theorem ticked_succ_mode_of_not_press (h : ¬ pressAt s b t k) :
    (ticked s b t (k + 1)).regs.mode = (ticked s b t k).regs.mode := by
  rw [pressAt, ticked_succ] at h
  rw [ticked_succ]
  exact not_ne_iff.mp (tickRegs_mode_ne_iff.not.mpr h)

/-- The confirmed level stays at the level of the samples. -/
theorem ticked_confirmedLevel_of_constant (h : s.regs.confirmedLevel = l) (hb : ∀ i, i < k → b i = l) :
    (ticked s b t k).regs.confirmedLevel = l := by
  induction k with
  | zero => exact h
  | succ k ih =>
    rw [ticked_succ_confirmedLevel, hb k (by omega), ih fun i hi => hb i (by omega), ite_self]

/-! ### A level held since its change tick -/

/-- TICK `j` found the level other than `l`, every sample from `j` to `k` is `l`, and the time base is monotone there
(R80, R84). -/
structure HeldSince (s : State) (b : Nat → Bool) (t : Nat → Nat) (l : Bool) (j k : Nat) : Prop where
  changed : (ticked s b t j).regs.rawLevel ≠ l
  held : ∀ i, j ≤ i → i ≤ k → b i = l
  monotone : monotoneFromTo s.config.timeWidth t j k

/-- A monotone time base is monotone on a part of its TICKs. -/
theorem monotoneFromTo_sub {tW : Nat} (h : monotoneFromTo tW t j m) {i : Nat} (hi : j ≤ i) (hk : k ≤ m) :
    monotoneFromTo tW t i k :=
  ⟨fun n hn hnk => h.1 n (by omega) (by omega), fun n hn hnk => h.2 n (by omega) (by omega)⟩

namespace HeldSince

/-- A run is one up to any earlier TICK too. -/
theorem upTo (h : HeldSince s b t l j k) {i : Nat} (hi : i ≤ k) : HeldSince s b t l j i :=
  ⟨h.changed, fun n hn hni => h.held n hn (by omega), monotoneFromTo_sub h.monotone le_rfl hi⟩

/-- R71: in a run the time of the change stands in `stableSince`. -/
theorem sinceAfter_eq (h : HeldSince s b t l j k) (hjk : j ≤ k) :
    sinceAfter s.config.timeWidth (ticked s b t k).regs (b k) (t k) = t j := by
  induction k, hjk using Nat.le_induction with
  | base =>
    have hb := h.held j le_rfl le_rfl
    rw [sinceAfter_of_ne (by rw [hb]; exact h.changed.symm), narrow_of_lt (h.monotone.2 j le_rfl le_rfl)]
  | succ k hjk ih =>
    have hsame : b (k + 1) = (ticked s b t (k + 1)).regs.rawLevel := by
      rw [ticked_succ_rawLevel, h.held k hjk (by omega), h.held (k + 1) (by omega) le_rfl]
    rw [hsame, sinceAfter_same, ticked_succ, State.commit_regs, tickRegs, detect_stableSince]
    exact ih (h.upTo (by omega))

/-- R72: in a run a TICK is stable exactly when it is more than the window after the change. -/
theorem stable_iff_longerThanWindow (h : HeldSince s b t l j k) (hjk : j ≤ k) :
    stable s.config (ticked s b t k).regs (b k) (t k) = true ↔ longerThanWindow s.config.wMs t j k := by
  have hle := monotoneFromTo_le h.monotone le_rfl hjk le_rfl
  rw [stable_iff, h.sinceAfter_eq hjk, age_of_le hle (h.monotone.2 k hjk le_rfl), longerThanWindow]
  omega

/-- R74: in a pressed run the latch is clear exactly where it was at the change and no TICK since was stable. -/
theorem pressLatched_eq_false_iff (h : HeldSince s b t true j k) (hjk : j ≤ k) :
    (ticked s b t k).regs.pressLatched = false ↔
      (ticked s b t j).regs.pressLatched = false ∧
        ∀ i, j ≤ i → i < k → ¬ longerThanWindow s.config.wMs t j i := by
  induction k, hjk using Nat.le_induction with
  | base => exact ⟨fun hlatch => ⟨hlatch, fun i hi hlt => by omega⟩, And.left⟩
  | succ k hjk ih =>
    have hrun := h.upTo (Nat.le_succ k)
    have hlast : (∀ i, j ≤ i → i < k + 1 → ¬ longerThanWindow s.config.wMs t j i) ↔
        (∀ i, j ≤ i → i < k → ¬ longerThanWindow s.config.wMs t j i) ∧ ¬ longerThanWindow s.config.wMs t j k :=
      ⟨fun hnone => ⟨fun i hi hlt => hnone i hi (by omega), hnone k hjk (by omega)⟩,
        fun ⟨hnone, hk⟩ i hi hlt => (Nat.lt_succ_iff_lt_or_eq.mp hlt).elim (hnone i hi) fun hik => hik ▸ hk⟩
    rw [hlast, ← and_assoc, ← ih hrun, ← hrun.stable_iff_longerThanWindow hjk, ticked_succ_pressLatched,
      hrun.held k hjk le_rfl]
    cases stable s.config (ticked s b t k).regs true (t k) <;> simp

/-- R73: a pressed run is reported where the latch was clear at its change, at its first TICK past the window. -/
theorem pressAt_iff (h : HeldSince s b t true j k) (hjk : j ≤ k) :
    pressAt s b t k ↔ (ticked s b t j).regs.pressLatched = false ∧ longerThanWindow s.config.wMs t j k ∧
      ∀ i, j ≤ i → i < k → ¬ longerThanWindow s.config.wMs t j i := by
  rw [Machine.pressAt_iff, h.stable_iff_longerThanWindow hjk, h.pressLatched_eq_false_iff hjk]
  have hb := h.held k hjk le_rfl
  tauto

end HeldSince

/-! ### Where a run starts -/

/-- The samples up to TICK `k` have a last change, or none at all. -/
theorem exists_run_start (b : Nat → Bool) (k : Nat) :
    ∃ j, j ≤ k ∧ (∀ i, j ≤ i → i ≤ k → b i = b k) ∧ (j = 0 ∨ b (j - 1) = !b k) := by
  induction k with
  | zero => exact ⟨0, le_rfl, fun i _ hi => by rw [Nat.le_zero.mp hi], .inl rfl⟩
  | succ k ih =>
    by_cases hsame : b k = b (k + 1)
    · obtain ⟨j, hjk, hheld, hstart⟩ := ih
      rw [hsame] at hheld hstart
      refine ⟨j, by omega, fun i hi hik => ?_, hstart⟩
      obtain hlt | rfl := Nat.lt_or_eq_of_le hik
      · exact hheld i hi (by omega)
      · rfl
    · refine ⟨k + 1, le_rfl, fun i hi hik => by rw [Nat.le_antisymm hik hi], .inr ?_⟩
      exact Bool.eq_not_iff.mpr hsame

/-- A run that starts where the samples, or the state before them, had the other level. -/
theorem heldSince_of_run_start (hstart : j = 0 ∧ s.regs.rawLevel ≠ l ∨ 0 < j ∧ b (j - 1) ≠ l)
    (hheld : ∀ i, j ≤ i → i ≤ k → b i = l) (hmono : monotoneFromTo s.config.timeWidth t 0 k) :
    HeldSince s b t l j k := by
  refine ⟨?_, hheld, monotoneFromTo_sub hmono (Nat.zero_le j) le_rfl⟩
  obtain ⟨rfl, hraw⟩ | ⟨hpos, hb⟩ := hstart
  · exact hraw
  · obtain ⟨j, rfl⟩ := Nat.exists_eq_add_one_of_ne_zero hpos.ne'
    rwa [ticked_succ_rawLevel]

/-- A pressed run, in the TICKs from a state in which the button was released. -/
theorem heldSince_of_pressed_run (hraw : s.regs.rawLevel = false) (hstart : j = 0 ∨ b (j - 1) = false)
    (hheld : ∀ i, j ≤ i → i ≤ k → b i = true) (hmono : monotoneFromTo s.config.timeWidth t 0 k) :
    HeldSince s b t true j k := by
  refine heldSince_of_run_start ?_ hheld hmono
  obtain rfl | hpos := Nat.eq_zero_or_pos j
  · simp [hraw]
  · obtain rfl | hb := hstart
    · simp [hraw]
    · simp [hpos, hb]

end Runs

/-! ### The laws of the press (R82 to R86, C5) -/

/-- Settles O36: a press at TICK `k` is one of the pressed run that reaches to `k`. -/
theorem pressIffFirstTickPastTheWindow : Obligations.PressIffFirstTickPastTheWindow := by
  intro s0 s b t k hreset hmono
  have hraw : s.regs.rawLevel = false := by rw [regs_eq_of_exec hreset]; rfl
  constructor
  · intro hpress
    have hb : b k = true := ((pressAt_iff s b t k).mp hpress).2.1
    obtain ⟨j, hjk, hheld, hstart⟩ := exists_run_start b k
    rw [hb] at hheld hstart
    have hrun := heldSince_of_pressed_run hraw hstart hheld hmono
    exact ⟨j, hjk, hheld, hstart, (hrun.pressAt_iff hjk).mp hpress⟩
  · rintro ⟨j, hjk, hheld, hstart, hfirst⟩
    exact ((heldSince_of_pressed_run hraw hstart hheld hmono).pressAt_iff hjk).mpr hfirst

/-- Settles O33: part of what `pressIffFirstTickPastTheWindow` says of a press. -/
theorem pressNeedsALevelHeldPastTheWindow : Obligations.PressNeedsALevelHeldPastTheWindow := by
  intro s0 s b t k hreset hmono hpress
  obtain ⟨j, hjk, hheld, hstart, -, hlonger, -⟩ :=
    (pressIffFirstTickPastTheWindow s0 s b t k hreset hmono).mp hpress
  exact ⟨j, hjk, hheld, hstart, hlonger⟩

/-- Settles O34: the run starts at TICK 0, where the latch is clear. -/
theorem heldPressReportedExactlyOnce : Obligations.HeldPressReportedExactlyOnce := by
  intro s b t m hlatch hraw hheld hmono k hk
  have hrun : HeldSince s b t true 0 m := heldSince_of_pressed_run hraw (.inl rfl) (fun i _ => hheld i) hmono
  rw [(hrun.upTo hk).pressAt_iff (Nat.zero_le k)]
  exact ⟨fun ⟨_, hlonger, hfirst⟩ => ⟨hlonger, fun i => hfirst i (Nat.zero_le i)⟩,
    fun ⟨hlonger, hfirst⟩ => ⟨hlatch, hlonger, fun i _ => hfirst i⟩⟩

/-- Settles O35: no TICK of the run is past the window, since the last one is not, and the TICK after it samples the
released button. -/
theorem shortPressIsRejected : Obligations.ShortPressIsRejected := by
  intro s b t m hraw hheld hreleased hmono hshort k hk hpress
  have hrun : HeldSince s b t true 0 m := heldSince_of_pressed_run hraw (.inl rfl) (fun i _ => hheld i) hmono
  obtain hle | rfl := Nat.le_succ_iff.mp hk
  · obtain ⟨-, hlonger, -⟩ := ((hrun.upTo hle).pressAt_iff (Nat.zero_le k)).mp hpress
    exact hshort (Nat.lt_of_lt_of_le hlonger (monotoneFromTo_le hmono (Nat.zero_le k) hle le_rfl))
  · obtain ⟨-, hpressed, -⟩ := (pressAt_iff s b t (m + 1)).mp hpress
    exact absurd hpressed (by simp [hreleased])

/-- Evenly spaced times without a wrap are a monotone time base. -/
theorem monotoneFromTo_of_evenly_spaced {tW start P n : Nat} {t : Nat → Nat} (hwrap : start + n * P < 2 ^ tW)
    (ht : ∀ i, i ≤ n → t i = start + i * P) : monotoneFromTo tW t 0 n := by
  refine ⟨fun i _ hi => ?_, fun i _ hi => ?_⟩
  · rw [ht i hi.le, ht (i + 1) hi, Nat.succ_mul]
    omega
  · have hle : i * P ≤ n * P := Nat.mul_le_mul_right P hi
    rw [ht i hi]
    omega

/-- Settles O38: with even spacing the first TICK past the window is the first multiple of `P` past it. -/
theorem eventLatencyIsExact : Obligations.EventLatencyIsExact := by
  intro s b t start P n hP hn hwrap ht hheld hlatch hraw
  have hpast : s.config.wMs < n * P := by
    rw [hn, Nat.mul_comm]
    exact Nat.lt_mul_div_succ _ hP
  have hbefore : ∀ k, k < n → k * P ≤ s.config.wMs := fun k hk =>
    (Nat.le_div_iff_mul_le hP).mp (by omega)
  have hlonger : ∀ k, k ≤ n → (longerThanWindow s.config.wMs t 0 k ↔ s.config.wMs < k * P) := fun k hk => by
    rw [longerThanWindow, ht 0 (Nat.zero_le n), ht k hk]
    omega
  have hnone : ∀ k, k < n → ¬ longerThanWindow s.config.wMs t 0 k := fun k hk => by
    rw [hlonger k hk.le]
    exact Nat.not_lt.mpr (hbefore k hk)
  have honce := heldPressReportedExactlyOnce s b t n hlatch hraw hheld (monotoneFromTo_of_evenly_spaced hwrap ht)
  refine ⟨(honce n le_rfl).mpr ⟨(hlonger n le_rfl).mpr hpast, hnone⟩, fun k hk hpress => ?_, hpast, ?_⟩
  · exact hnone k hk ((honce k hk.le).mp hpress).1
  · rw [hn, Nat.succ_mul]
    exact Nat.add_le_add_right (Nat.div_mul_le_self _ _) P

/-- R93: without a press the mode stays as it was. -/
theorem ticked_mode_of_no_press {s : State} {b : Nat → Bool} {t : Nat → Nat} {k : Nat}
    (h : ∀ i, i < k → ¬ pressAt s b t i) : (ticked s b t k).regs.mode = s.regs.mode := by
  induction k with
  | zero => rfl
  | succ k ih => rw [ticked_succ_mode_of_not_press (h k (by omega)), ih fun i hi => h i (by omega)]

/-- Settles O39: RESET leaves the button released, the latch clear and the mode Manual, and the press is the first. -/
theorem buttonHeldThroughResetIsReported : Obligations.ButtonHeldThroughResetIsReported := by
  intro s0 s b t k hreset hheld hmono hlonger hfirst
  have hregs : s.regs = Regs.afterReset := regs_eq_of_exec hreset
  have honce := heldPressReportedExactlyOnce s b t k (by rw [hregs]; rfl) (by rw [hregs]; rfl) hheld hmono
  have hpress : pressAt s b t k := (honce k le_rfl).mpr ⟨hlonger, hfirst⟩
  have hmode : ∀ i, i ≤ k → (ticked s b t i).regs.mode = .manual := fun i hi => by
    rw [ticked_mode_of_no_press fun n hn hpress => hfirst n (by omega) ((honce n (by omega)).mp hpress).1, hregs]
    rfl
  refine ⟨hpress, ?_, hmode⟩
  rw [ticked_succ_mode_of_press hpress, hmode k le_rfl]
  rfl

/-- Settles O37: the TICK is stable, and its run has a change, since from TICK 0 on a level that RESET left would not
change the confirmed level. -/
theorem confirmedLevelNeedsAConstantLevel : Obligations.ConfirmedLevelNeedsAConstantLevel := by
  intro s0 s b t k hreset hmono hchanged
  have hregs : s.regs = Regs.afterReset := regs_eq_of_exec hreset
  rw [ticked_succ_confirmedLevel] at hchanged ⊢
  split at hchanged
  case isFalse => exact absurd rfl hchanged
  case isTrue hstable =>
    rw [if_pos hstable]
    obtain ⟨j, hjk, hheld, hstart⟩ := exists_run_start b k
    have hrun : HeldSince s b t (b k) j k := by
      refine heldSince_of_run_start ?_ hheld hmono
      obtain rfl | hpos := Nat.eq_zero_or_pos j
      · refine .inl ⟨rfl, fun hraw => hchanged ?_⟩
        have hconfirmed : s.regs.confirmedLevel = b k := by rw [← hraw, hregs]; rfl
        rw [ticked_confirmedLevel_of_constant hconfirmed fun i hi => hheld i (Nat.zero_le i) hi.le]
      · exact .inr ⟨hpos, Bool.eq_not_iff.mp (hstart.resolve_left hpos.ne')⟩
    exact ⟨j, hjk, hheld, (hrun.stable_iff_longerThanWindow hjk).mp hstable⟩

end Sys2Proof.Machine
